-- ==== Sys2Proof/Word.lean ====
section
/-! DEFINITION. Word types of the core, the formats of the opcode table, and the types of the operands that say which
action of an element an instruction is (spec/30_encoding.md R80; notes/assumptions/12.md). -/

namespace Sys2Proof

/-- One byte: the unit of the input port, the window and the output (spec/20_memory.md R66). -/
abbrev Byte := BitVec 8

/-- One host register (spec/00_scope.md R5: register width 32). -/
abbrev Word := BitVec 32

/-- A host register offset (spec/00_scope.md R5: host address width 16). -/
abbrev Offset := BitVec 16

/-- The formats of spec/opcode_table.json (spec/30_encoding.md R80, R91). -/
inductive Format where
  | cmd | blkhdr | stored | dynhdr | clsym | llsym | dsym
deriving DecidableEq, Repr

/-- Which action of a symbol with `x` extra bits: its code has just been read, or its extra field `e` has
(spec/30_encoding.md R88). -/
inductive SymPart (x : Nat) where
  | code
  | extra (e : BitVec x)
deriving DecidableEq, Repr

/-- Which action of a distance symbol with `x` extra bits: its code, its extra field, or the copy of one byte of the
match it completes (spec/43_symbols.md R214, R215, R247). -/
inductive DistPart (x : Nat) where
  | code
  | extra (e : BitVec x)
  | copy
deriving DecidableEq, Repr

/-- Which action of a command that reads input bytes: the command word, or one byte (spec/45_host.md R285, R287). -/
inductive CmdPart where
  | command
  | byte (b : Byte)
deriving DecidableEq, Repr

/-- The fields of a stored block (spec/30_encoding.md R82). -/
inductive StoredField where
  | len (v : BitVec 16)
  | nlen (v : BitVec 16)
  | byte (b : Byte)
deriving DecidableEq, Repr

/-- The fields of a dynamic block header, as they stand in the stream (offsets not applied), and the build of the
code-length table that ends it (spec/30_encoding.md R83, spec/42_block.md R160–R164). -/
inductive DynField where
  | hlit (v : BitVec 5)
  | hdist (v : BitVec 5)
  | hclen (v : BitVec 4)
  | clLen (v : BitVec 3)
  | build
deriving DecidableEq, Repr

end Sys2Proof
end

