-- ==== Sys2Proof/Machine/Regs.lean ====
section
/-! DEFINITION. The types of the core's registers, and the block of those registers whose values an error leaves
unspecified (spec/60_exceptions.md R303). Plain data. -/

namespace Sys2Proof.Machine

/-- `PHASE`: the action the core performs at its next step (spec/10_state.md R25). -/
inductive Phase where
  | hBfinal | hBtype
  | sLen | sNlen | sCopy
  | dHlit | dHdist | dHclen | dCllen | dClbuild | dLensym | dRepeat | dBuild
  | lSym | lLenx | lDsym | lDistx | lCopy
  | fEnd | cRdbyte | cTrailer | xDone
deriving DecidableEq, Repr, Inhabited

/-- `STATE` (spec/10_state.md R26); the values 5 to 7 never occur. -/
inductive RunState where
  | idle | busy | flush | done | error
deriving DecidableEq, Repr, Inhabited

/-- `ERR_CODE` (spec/60_exceptions.md R300). -/
inductive ErrCode where
  | none | badMagic | unsupportedMethod | encrypted | multiPartUnsupported | badHuffmanTable | outOfMemory
  | crcMismatch | lengthMismatch | truncatedInput | ioError
deriving DecidableEq, Repr, Inhabited

/-- `ERR_DETAIL` (spec/60_exceptions.md R301). -/
inductive ErrDetail where
  | none | oversub | incomplete | invalidCode | emptyTable | badBtype | badCounts | repeatNoPrev | repeatOverflow
  | distTooFar | storedNlen | trailerLen | trailerCrc | eof | io | oom
deriving DecidableEq, Repr, Inhabited

/-- `ERR_TABLE` (spec/60_exceptions.md R302). -/
inductive ErrTable where
  | none | codeLength | litLen | dist
deriving DecidableEq, Repr, Inhabited

/-- The three alphabets a table decodes (spec/00_scope.md R12). -/
inductive Alphabet where
  | cl | ll | dist
deriving DecidableEq, Repr, Inhabited

/-- The status of a table (spec/41_huffman.md R122). -/
inductive TableStatus where
  | empty | complete | incomplete | oversub
deriving DecidableEq, Repr, Inhabited

/-- Which table a block decodes with: the constant fixed one or the dynamic register (spec/10_state.md R38). -/
inductive TableSel where
  | fixed | dyn
deriving DecidableEq, Repr, Inhabited

/-- One assigned code: a symbol, its length and its canonical code (spec/41_huffman.md R123). -/
structure CodeEntry where
  sym : Nat
  len : Nat
  code : Nat
deriving DecidableEq, Repr, Inhabited

/-- The result of one `Build`: the code-length vector, its status, and the symbol of every assigned code
(spec/10_state.md R38, spec/41_huffman.md R120). -/
structure Table where
  lens : List Nat
  status : TableStatus
  codes : List CodeEntry
deriving DecidableEq, Repr, Inhabited

/-- The terminal signal of the input port (spec/10_state.md R50). -/
inductive Terminal where
  | none | eof | ioErr
deriving DecidableEq, Repr, Inhabited

/-- The core registers that hold an unspecified value after a raise (spec/60_exceptions.md R303). -/
structure CoreRegs where
  /-- `BITBUF` (R21) -/
  bitbuf : BitVec 64
  /-- `BITCNT` (R22) -/
  bitcnt : BitVec 6
  /-- `IN_BYTES_total` (R24), the unwrapped count of bytes taken since reset; `IN_BYTES` is `CoreRegs.inBytes` -/
  inBytesTotal : Nat
  /-- `PHASE` (R25) -/
  phase : Phase
  /-- `BFINAL` (R27) -/
  bfinal : Bool
  /-- `BTYPE` (R27) -/
  btype : BitVec 2
  /-- `W` (R28) -/
  w : BitVec 16
  /-- `HAVE` (R29) -/
  haveCount : BitVec 16
  /-- `SREM` (R32) -/
  srem : BitVec 16
  /-- `SLEN` (R32) -/
  slen : BitVec 16
  /-- `HLIT` (R33), offset applied -/
  hlit : BitVec 9
  /-- `HDIST` (R33), offset applied -/
  hdist : BitVec 6
  /-- `HCLEN` (R33), offset applied -/
  hclen : BitVec 5
  /-- `CLIDX` (R33) -/
  clidx : BitVec 5
  /-- `CL_LENS[0..18]` (R34) -/
  clLens : Vector (BitVec 3) 19
  /-- `LENS[0..315]` (R35) -/
  lens : Vector (BitVec 4) 316
  /-- `LIDX` (R35) -/
  lidx : BitVec 9
  /-- `RSYM` (R35) -/
  rsym : BitVec 5
  /-- `HCODE` (R36) -/
  hcode : BitVec 15
  /-- `HCNT` (R36) -/
  hcnt : BitVec 4
  /-- `MSYM` (R37) -/
  msym : BitVec 9
  /-- `MLEN` (R37) -/
  mlen : BitVec 9
  /-- `DSYM` (R37) -/
  dsym : BitVec 5
  /-- `MDIST` (R37) -/
  mdist : BitVec 16
  /-- `MREM` (R37) -/
  mrem : BitVec 9
  /-- `TBL_CL` (R38) -/
  tblCl : Table
  /-- `TBL_LIT` (R38) -/
  tblLit : Table
  /-- `TBL_DIST` (R38) -/
  tblDist : Table
  /-- `CUR_LIT` (R38) -/
  curLit : TableSel
  /-- `CUR_DIST` (R38) -/
  curDist : TableSel
  /-- `DATA[7:0]` (R47) -/
  data : Byte
  /-- `TIDX` (R47) -/
  tidx : BitVec 4
deriving DecidableEq, Repr, Inhabited

/-- `IN_BYTES`: the bytes taken from the input port since reset, modulo 2^32 (R23; notes/assumptions/27.md). -/
def CoreRegs.inBytes (c : CoreRegs) : Word := BitVec.ofNat 32 c.inBytesTotal

end Sys2Proof.Machine
end

