-- ==== Sys2Proof/Config.lean ====
section
/-! DEFINITION. What is fixed for the hardware, what is a parameter of an instance, and the values the spec leaves open.
A constant with no body is a free value: no statement may rest on what it is (notes/assumptions/4.md). -/

namespace Sys2Proof

open Sys2Proof.Machine

/-- `WSIZE` (spec/00_scope.md R5). -/
def Config.windowSize : Nat := 32768

/-- `MAXBITS`, the longest Huffman code (spec/00_scope.md R5). -/
def Config.maxBits : Nat := 15

/-- `LIT_ROOT_BITS` (spec/00_scope.md R5; unobservable, spec/41_huffman.md R127). -/
def Config.litRootBits : Nat := 9

/-- `DIST_ROOT_BITS` (spec/00_scope.md R5; unobservable). -/
def Config.distRootBits : Nat := 6

/-- `CL_ROOT_BITS`: OPEN (spec/00_scope.md R5; unobservable). -/
opaque Config.clRootBits : Nat

/-- `N_INSTANCES - 1`: OPEN, so that there is at least one instance (spec/00_scope.md R5, R340). -/
opaque Config.moreInstances : Nat

/-- `N_INSTANCES` (spec/00_scope.md R5). -/
def Config.nInstances : Nat := Config.moreInstances + 1

/-- `CORE_BASE`: where the platform puts the register space, OPEN (spec/20_memory.md R69). -/
opaque Config.coreBase : Nat

/-- `P_REPEAT_NO_PREV` (spec/00_scope.md R5). -/
inductive RepeatNoPrev where
  | fault | zero
deriving DecidableEq, Repr, Inhabited

/-- `P_DIST_TOO_FAR` (spec/00_scope.md R5). -/
inductive DistTooFar where
  | fault | window
deriving DecidableEq, Repr, Inhabited

/-- An instance's parameters, the content of the `CONFIG` register (spec/10_state.md R48). -/
structure Params where
  singleDistCodeOk : Bool
  repeatNoPrev : RepeatNoPrev
  distTooFar : DistTooFar
  oomPossible : Bool
deriving DecidableEq, Repr, Inhabited

/-- The default of every parameter (spec/00_scope.md R5). -/
def Params.default : Params :=
  { singleDistCodeOk := false, repeatNoPrev := .fault, distTooFar := .fault, oomPossible := false }

/-- Which free draw: the core that makes it and its number among that core's draws, so that neither two draws of one core
nor the draws of two cores are tied (spec/60_exceptions.md R312, R314; notes/assumptions/4.md, 19.md). -/
structure Draw where
  owner : Nat
  number : Nat
deriving DecidableEq, Repr, Inhabited

/-- The same core's next draw. -/
def Draw.next (d : Draw) : Draw := { d with number := d.number + 1 }

/-- A free draw: the core registers after a raise (spec/60_exceptions.md R303, R314). -/
opaque Config.freeRegs : Draw → CoreRegs

/-- A free draw: the byte read from window cell `i` where the spec leaves it open
(spec/45_host.md R291, spec/10_state.md R52, spec/60_exceptions.md R314). -/
opaque Config.freeByte : Draw → Nat → Byte

/-- A free draw: whether the build of table `t` runs out of memory (spec/41_huffman.md R128). -/
opaque Config.freeOom : Draw → ErrTable → Bool

end Sys2Proof
end

