-- ==== Sys2Proof/Machine/State.lean ====
section
/-! DEFINITION. The state of one core instance, the reasons a step can stop, and the state after power-on reset
(spec/10_state.md, spec/70_reset_and_hazards.md R332). -/

namespace Sys2Proof.Machine

/-- The window: the cells that hold a byte, by rising index; a cell that is not listed holds no value
(spec/10_state.md R40; notes/assumptions/9.md). -/
abbrev Memory := List Host.Cell

/-- The width of a host access. -/
inductive Width where
  | byte | half | word
deriving DecidableEq, Repr

/-- One host step (spec/45_host.md R280). -/
inductive HostAction where
  | read (off : Offset) (width : Width)
  | write (off : Offset) (width : Width) (v : Word)
  | push (b : Byte)
  | signalEof
  | signalIoErr
deriving DecidableEq, Repr

/-- Whose turn it is: the core's, the host's with its action, or a power-on reset (notes/assumptions/1.md). -/
inductive Turn where
  | core
  | host (a : HostAction)
  | powerOn
deriving DecidableEq, Repr

/-- What a host read returned (notes/assumptions/8.md). -/
inductive HostReply where
  | word (v : Word)
  | byte (b : Byte)
deriving DecidableEq, Repr

/-- One flush: its bytes in window order, and whether it was the final one (spec/10_state.md R51). -/
structure FlushRecord where
  bytes : List Byte
  final : Bool
deriving DecidableEq, Repr

/-- All the state of one instance (spec/10_state.md R20), and the model's own `agenda`, `reply` and `draws`. -/
structure State where
  /-- the registers a raise leaves unspecified (spec/60_exceptions.md R303) -/
  core : CoreRegs
  /-- `STATE` (R26) -/
  state : RunState
  /-- `STATUS.FINAL_FLUSH` (R42) -/
  finalFlush : Bool
  /-- `STATUS.VERIFIED` (R42) -/
  verified : Bool
  /-- `STATUS.REJECT` (R42) -/
  reject : Bool
  /-- `STATUS.IN_WAIT` (R42) -/
  inWait : Bool
  /-- `CRC_STATE` (R30) -/
  crcState : Word
  /-- `COUNT` (R31) -/
  count : Word
  /-- `ERR_CODE` (R43) -/
  errCode : ErrCode
  /-- `ERR_DETAIL` (R43) -/
  errDetail : ErrDetail
  /-- `ERR_TABLE` (R43) -/
  errTable : ErrTable
  /-- `DECL_CRC` (R45) -/
  declCrc : Word
  /-- `DECL_LEN` (R45) -/
  declLen : Word
  /-- `FLUSH_LEN` (R46) -/
  flushLen : BitVec 16
  /-- `CONFIG` (R48) -/
  config : Params
  /-- `window[0..32767]` (R40) -/
  window : Memory
  /-- `INQ` (R50), the head taken first -/
  inq : List Byte
  /-- `INTERM` (R50) -/
  interm : Terminal
  /-- `OUTLOG` (R51), oldest first -/
  outlog : List FlushRecord
  /-- the model's own: the turns to come, first one next; with none left the core has the turn -/
  agenda : List Turn
  /-- the model's own: what the last host read returned -/
  reply : Option HostReply
  /-- the model's own: the next free draw (notes/assumptions/4.md) -/
  draws : Draw
deriving DecidableEq, Repr

/-- Why the machine stops with a fault. Each is raised only where a register holds a value outside the range the spec
gives it; no run from reset reaches one (`Obligations.InvariantStatesNeverFault`). All are SAFE (notes/assumptions/11.md). -/
inductive Fault where
  /-- `WindowWrite` with `W` not below 32768, an index the window does not have (spec/44_window_crc.md R260). Raised by
  `windowWrite`. Safe. -/
  | windowIndex
  /-- a code length stored past `LENS[315]` or past `CL_LENS[18]` (spec/10_state.md R34, R35). Raised by `storeLengths`
  and `execDynhdr`. Safe. -/
  | lengthIndex
  /-- a continuation register (`RSYM`, `MSYM`, `DSYM`) or a decoded symbol outside its alphabet (spec/10_state.md R35, R37).
  Raised by `step`. Safe. -/
  | operandRange
deriving DecidableEq, Repr

/-- Why the model gives a step no meaning. -/
inductive Refusal where
  /-- an instruction with no meaning yet. Raised by `exec`'s rejected arms only; there is none. Safe. -/
  | notModelled (mnemonic : String)
  /-- a host access that is not an aligned word below 0x8000 or a byte at 0x8000 and above (spec/10_state.md R49: "outside
  the host contract and a model refuses it"). Raised by the host port. Safe. -/
  | outsideHostContract
deriving DecidableEq, Repr

/-- What a meaning answers. -/
abbrev Result := Host.Outcome State Fault Refusal

/-- An EMPTY table (spec/41_huffman.md R122), as the table registers hold it at reset. spec/70_reset_and_hazards.md R332
gives the status only: that its length vector is the empty one is the model's choice (notes/assumptions/31.md). -/
def Table.emptyTable : Table := { lens := [], status := .empty, codes := [] }

/-- The reset values of the core registers (spec/70_reset_and_hazards.md R332). -/
def CoreRegs.reset : CoreRegs where
  bitbuf := 0
  bitcnt := 0
  inBytesTotal := 0
  phase := .hBfinal
  bfinal := false
  btype := 0
  w := 0
  haveCount := 0
  srem := 0
  slen := 0
  hlit := 0
  hdist := 0
  hclen := 0
  clidx := 0
  clLens := Vector.replicate 19 0
  lens := Vector.replicate 316 0
  lidx := 0
  rsym := 0
  hcode := 0
  hcnt := 0
  msym := 0
  mlen := 0
  dsym := 0
  mdist := 0
  mrem := 0
  tblCl := Table.emptyTable
  tblLit := Table.emptyTable
  tblDist := Table.emptyTable
  curLit := .fixed
  curDist := .fixed
  data := 0
  tidx := 0

/-- The state after power-on reset (spec/70_reset_and_hazards.md R330, R332). -/
def State.reset : State where
  core := CoreRegs.reset
  state := .idle
  finalFlush := false
  verified := false
  reject := false
  inWait := false
  crcState := 0xFFFFFFFF#32
  count := 0
  errCode := .none
  errDetail := .none
  errTable := .none
  declCrc := 0
  declLen := 0
  flushLen := 0
  config := Params.default
  window := []
  inq := []
  interm := .none
  outlog := []
  agenda := []
  reply := none
  draws := { owner := 0, number := 0 }

end Sys2Proof.Machine
end

