-- ==== Sys2Proof/Machine/Flags.lean ====
section
/-! DEFINITION. The register words the host reads that are made of fields: `STATUS`, `ERROR`, `CRC`, `CONFIG`
(spec/10_state.md R42–R44, R48). -/

namespace Sys2Proof.Machine

/-- `STATUS[2:0]` (spec/10_state.md R26). -/
def RunState.code : RunState → Nat
  | .idle => 0
  | .busy => 1
  | .flush => 2
  | .done => 3
  | .error => 4

/-- `ERROR[7:0]` (spec/60_exceptions.md R300). -/
def ErrCode.code : ErrCode → Nat
  | .none => 0
  | .badMagic => 1
  | .unsupportedMethod => 2
  | .encrypted => 3
  | .multiPartUnsupported => 4
  | .badHuffmanTable => 5
  | .outOfMemory => 6
  | .crcMismatch => 7
  | .lengthMismatch => 8
  | .truncatedInput => 9
  | .ioError => 10

/-- `ERROR[15:8]` (spec/60_exceptions.md R301). -/
def ErrDetail.code : ErrDetail → Nat
  | .none => 0
  | .oversub => 1
  | .incomplete => 2
  | .invalidCode => 3
  | .emptyTable => 4
  | .badBtype => 5
  | .badCounts => 6
  | .repeatNoPrev => 7
  | .repeatOverflow => 8
  | .distTooFar => 9
  | .storedNlen => 10
  | .trailerLen => 11
  | .trailerCrc => 12
  | .eof => 13
  | .io => 14
  | .oom => 15

/-- `ERROR[17:16]` (spec/60_exceptions.md R302). -/
def ErrTable.code : ErrTable → Nat
  | .none => 0
  | .codeLength => 1
  | .litLen => 2
  | .dist => 3

/-- The `STATUS` register: `STATE` in [2:0], `FINAL_FLUSH` [3], `BFINAL` [4], `BTYPE` [6:5], `VERIFIED` [7],
`REJECT` [8], `IN_WAIT` [9], the rest 0 (spec/10_state.md R42). -/
def State.statusWord (s : State) : Word :=
  BitVec.ofNat 32 (s.state.code + 8 * s.finalFlush.toNat + 16 * s.core.bfinal.toNat + 32 * s.core.btype.toNat
    + 128 * s.verified.toNat + 256 * s.reject.toNat + 512 * s.inWait.toNat)

/-- The `ERROR` register: code [7:0], detail [15:8], table [17:16], the rest 0 (spec/10_state.md R43). -/
def State.errorWord (s : State) : Word :=
  BitVec.ofNat 32 (s.errCode.code + 256 * s.errDetail.code + 65536 * s.errTable.code)

/-- The `CRC` register, `CRC_STATE ^ 0xFFFFFFFF` (spec/10_state.md R44, spec/44_window_crc.md R264). -/
def State.crcWord (s : State) : Word := s.crcState ^^^ 0xFFFFFFFF#32

/-- The `CONFIG` register (spec/10_state.md R48). -/
def State.configWord (s : State) : Word :=
  BitVec.ofNat 32 (s.config.singleDistCodeOk.toNat + 2 * (if s.config.repeatNoPrev = .zero then 1 else 0)
    + 4 * (if s.config.distTooFar = .window then 1 else 0) + 8 * s.config.oomPossible.toNat)

end Sys2Proof.Machine
end

