-- ==== Sys2Proof/Machine/Memory.lean ====
section
/-! DEFINITION. The window as sparse memory: reading and writing one cell, and the canonical form
(spec/44_window_crc.md R260, spec/10_state.md R40). -/

namespace Sys2Proof.Machine

/-- The canonical form: indices strictly rising, every index below 32768. An unlisted cell holds no value, so no listed
byte equals what an unlisted cell reads as. -/
def Memory.wf (m : Memory) : Bool :=
  decide (m.Pairwise (fun x y => x.1 < y.1)) && m.all (fun x => decide (x.1 < Config.windowSize))

/-- The byte in cell `a`, or no value (spec/10_state.md R40). -/
def Memory.read : Memory → Nat → Option Byte
  | [], _ => none
  | (x, y) :: m, a => if a = x then some y else Memory.read m a

/-- The window with byte `b` in cell `a`; every other cell is kept. -/
def Memory.write : Memory → Nat → Byte → Memory
  | [], a, b => [(a, b)]
  | (x, y) :: m, a, b =>
    if a < x then (a, b) :: (x, y) :: m
    else if a = x then (a, b) :: m
    else (x, y) :: Memory.write m a b

end Sys2Proof.Machine
end

