-- ==== Sys2Proof/Machine/Bits.lean ====
section
/-! DEFINITION. Bit order: integer fields have their first-read bit as bit 0 (spec/20_memory.md R62), Huffman codes their
first-read bit as the most significant (R63). A list of bits is in read order. -/

namespace Sys2Proof.Machine

/-- The integer field whose bits, first read first, are the list (spec/20_memory.md R62). -/
def natOfBits : List Bool → Nat
  | [] => 0
  | b :: bs => b.toNat + 2 * natOfBits bs

/-- The low `n` bits of `v`, bit 0 first. -/
def bitsOf (n v : Nat) : List Bool := (List.range n).map v.testBit

/-- The bits of an `n`-bit Huffman code, most significant first (spec/20_memory.md R63). -/
def codeBits (n code : Nat) : List Bool := (bitsOf n code).reverse

/-- `(h << 1) | b` in the 15 bits of `HCODE` (spec/41_huffman.md R131). -/
def pushBit (h : BitVec 15) (b : Bool) : BitVec 15 := (h <<< 1) ||| (if b then 1 else 0)

/-- `v` with its byte `k` (bits `8k+7` to `8k`) replaced by `b` (spec/45_host.md R287). -/
def setByte (v : Word) (k : Nat) (b : Byte) : Word :=
  (v &&& ~~~((0xFF#32) <<< (8 * k))) ||| ((b.setWidth 32) <<< (8 * k))

end Sys2Proof.Machine
end

