-- ==== Sys2Proof/Machine/Huffman.lean ====
section
/-! DEFINITION. The canonical Huffman table builder and the lookup of a code (spec/41_huffman.md). -/

namespace Sys2Proof.Machine

/-- `bl_count[len]` (spec/41_huffman.md R121). -/
def blCount (lens : List Nat) (len : Nat) : Nat := lens.count len

/-- The over-subscription test over the lengths still to come; `left` is the exact signed integer of spec/41_huffman.md
R121. -/
def kraftStatus (lens : List Nat) : List Nat → Int → TableStatus
  | [], left => if left = 0 then .complete else .incomplete
  | len :: rest, left =>
    let left' := 2 * left - blCount lens len
    if left' < 0 then .oversub else kraftStatus lens rest left'

/-- The lengths 1 to 15 (`MAXBITS`, spec/00_scope.md R5). -/
def codeLengths : List Nat := List.range' 1 Config.maxBits

/-- The status of a length vector (spec/41_huffman.md R121, R122). -/
def tableStatus (lens : List Nat) : TableStatus :=
  if codeLengths.all (fun len => blCount lens len == 0) then .empty else kraftStatus lens codeLengths 1

/-- The first code of length `len`: `next_code[len]` before any symbol is assigned (spec/41_huffman.md R123). -/
def firstCode (lens : List Nat) : Nat → Nat
  | 0 => 0
  | len + 1 => 2 * (firstCode lens len + (if len = 0 then 0 else blCount lens len))

/-- The assignment of codes to the symbols `sym`, `sym + 1`, … with the given lengths; `next` is `next_code`
(spec/41_huffman.md R123). -/
def assignCodes : Nat → List Nat → List Nat → List CodeEntry
  | _, _, [] => []
  | sym, next, len :: rest =>
    if len = 0 then assignCodes (sym + 1) next rest
    else
      let code := next.getD len 0
      { sym := sym, len := len, code := code } :: assignCodes (sym + 1) (next.set len (code + 1)) rest

/-- `next_code[0..15]` before the first symbol (spec/41_huffman.md R123). -/
def initialCodes (lens : List Nat) : List Nat := (List.range (Config.maxBits + 1)).map (firstCode lens)

/-- The table of a length vector (spec/41_huffman.md R120–R123); an over-subscribed vector has no codes (R125). -/
def buildTable (lens : List Nat) : Table where
  lens := lens
  status := tableStatus lens
  codes := if tableStatus lens = .oversub then [] else assignCodes 0 (initialCodes lens) lens

/-- `maxlen`, the largest code length of the table (spec/41_huffman.md R120). -/
def Table.maxlen (t : Table) : Nat := t.lens.foldl max 0

/-- The symbol whose code has length `len` and value `code`, if there is one (spec/41_huffman.md R131). -/
def Table.lookup (t : Table) (len code : Nat) : Option Nat :=
  (t.codes.find? (fun e => e.len == len && e.code == code)).map CodeEntry.sym

/-- The code of symbol `sym`, if it has one. -/
def Table.codeOf (t : Table) (sym : Nat) : Option CodeEntry := t.codes.find? (fun e => e.sym == sym)

/-- The `ERR_TABLE` value of an alphabet's table (spec/60_exceptions.md R302). -/
def Alphabet.errTable : Alphabet → ErrTable
  | .cl => .codeLength
  | .ll => .litLen
  | .dist => .dist

/-- The acceptance policy for a dynamic build: `none` where the table is accepted, else the detail that
`BadHuffmanTable` is raised with (spec/41_huffman.md R124, spec/90_conflicts.md C1). -/
def buildFault (a : Alphabet) (p : Params) (lens : List Nat) : TableStatus → Option ErrDetail
  | .complete => none
  | .empty => none
  | .oversub => some .oversub
  | .incomplete =>
    if a = .dist ∧ p.singleDistCodeOk = true ∧ lens.filter (fun l => l != 0) = [1] then none else some .incomplete

/-- One dynamic `Build` (spec/41_huffman.md R120–R128): the table, or the error it raises. With `P_OOM_POSSIBLE` a build
that would return may run out of memory instead, by a free draw (R128; notes/assumptions/14.md). -/
def buildDynamic (a : Alphabet) (lens : List Nat) (s : State) : Except (ErrCode × ErrDetail) Table :=
  match buildFault a s.config lens (tableStatus lens) with
  | some d => .error (.badHuffmanTable, d)
  | none =>
    if s.config.oomPossible && Config.freeOom s.draws a.errTable then .error (.outOfMemory, .oom)
    else .ok (buildTable lens)

/-- The lengths of the fixed literal/length table (spec/41_huffman.md R129). -/
def fixedLitLens : List Nat :=
  List.replicate 144 8 ++ List.replicate 112 9 ++ List.replicate 24 7 ++ List.replicate 8 8

/-- `FIXED_LIT` (spec/41_huffman.md R129, spec/10_state.md R39). -/
def fixedLit : Table := buildTable fixedLitLens

/-- `FIXED_DIST`: 30 codes of 5 bits, deliberately incomplete (spec/41_huffman.md R130). -/
def fixedDist : Table := buildTable (List.replicate 30 5)

/-- The entry of a symbol (spec/41_huffman.md R126). -/
inductive Entry where
  | value (sym : Nat)
  | literal (b : Byte)
  | endOfBlock
  | length (extra base : Nat)
  | distance (extra base : Nat)
  | invalid
deriving DecidableEq, Repr

end Sys2Proof.Machine
end

