-- ==== Sys2Proof/Machine/Operands.lean ====
section
/-! DEFINITION. The operand tables: extra-bit widths and bases of length and distance symbols (spec/30_encoding.md R86,
R87), the order of the code-length-code lengths (R84), the entries of the alphabets (spec/41_huffman.md R126). -/

namespace Sys2Proof.Machine

/-- `CL_ORDER` (spec/30_encoding.md R84). -/
def clOrder : List Nat := [16, 17, 18, 0, 8, 7, 9, 6, 10, 5, 11, 4, 12, 3, 13, 2, 14, 1, 15]

/-- Extra bits and base of the length symbols 257 to 285, in order (spec/30_encoding.md R86). -/
def lengthRows : List (Nat × Nat) :=
  [(0, 3), (0, 4), (0, 5), (0, 6), (0, 7), (0, 8), (0, 9), (0, 10)]
    ++ [(1, 11), (1, 13), (1, 15), (1, 17)]
    ++ [(2, 19), (2, 23), (2, 27), (2, 31)]
    ++ [(3, 35), (3, 43), (3, 51), (3, 59)]
    ++ [(4, 67), (4, 83), (4, 99), (4, 115)]
    ++ [(5, 131), (5, 163), (5, 195), (5, 227)]
    ++ [(0, 258)]

/-- Extra bits and base of the distance symbols 0 to 29, in order (spec/30_encoding.md R87). -/
def distanceRows : List (Nat × Nat) :=
  [(0, 1), (0, 2), (0, 3), (0, 4)]
    ++ [(1, 5), (1, 7), (2, 9), (2, 13), (3, 17), (3, 25), (4, 33), (4, 49)]
    ++ [(5, 65), (5, 97), (6, 129), (6, 193), (7, 257), (7, 385), (8, 513), (8, 769)]
    ++ [(9, 1025), (9, 1537), (10, 2049), (10, 3073), (11, 4097), (11, 6145)]
    ++ [(12, 8193), (12, 12289), (13, 16385), (13, 24577)]

/-- The row of literal/length symbol `sym`, if it is a length symbol. -/
def lengthRow (sym : Nat) : Option (Nat × Nat) := if sym < 257 then none else lengthRows[sym - 257]?

/-- The row of distance symbol `sym`, if it codes a distance. -/
def distanceRow (sym : Nat) : Option (Nat × Nat) := distanceRows[sym]?

/-- The entry of a symbol of an alphabet; `none` for a symbol the alphabet does not have (spec/41_huffman.md R126). -/
def entryOf : Alphabet → Nat → Option Entry
  | .cl, sym => if sym < 19 then some (.value sym) else none
  | .ll, sym =>
    if sym < 256 then some (.literal (BitVec.ofNat 8 sym))
    else if sym = 256 then some .endOfBlock
    else match lengthRow sym with
      | some (x, base) => some (.length x base)
      | none => if sym < 288 then some .invalid else none
  | .dist, sym =>
    match distanceRow sym with
    | some (x, base) => some (.distance x base)
    | none => if sym < 32 then some .invalid else none

/-- The number of extra bits of the repeat symbol in `RSYM` (spec/42_block.md R170). -/
def repeatWidth (rsym : Nat) : Nat := if rsym = 16 then 2 else if rsym = 17 then 3 else 7

end Sys2Proof.Machine
end

