-- ==== Sys2Proof/Machine/Ops.lean ====
section
/-! DEFINITION. The operations the meanings share: the bit reader (spec/40_bitreader.md), the window, flush and CRC
(spec/44_window_crc.md), raising an error (spec/60_exceptions.md R303), the end of a block (spec/42_block.md R159), the
two resets (spec/70_reset_and_hazards.md R330–R332). -/

namespace Sys2Proof.Machine

/-! ## The bit reader -/

/-- The unconsumed bits held in `BITBUF`, next one first (spec/10_state.md R21, R22). -/
def State.heldBits (s : State) : List Bool := bitsOf s.core.bitcnt.toNat s.core.bitbuf.toNat

/-- The whole unread stream known to the core: the held bits, then the bits of the queued bytes, each least significant
first (spec/20_memory.md R61). -/
def State.pendingBits (s : State) : List Bool := s.heldBits ++ s.inq.flatMap (fun b => bitsOf 8 b.toNat)

/-- `BITPOS`, the number of bits consumed since reset, from the unwrapped byte count (spec/10_state.md R24). -/
def State.bitPos (s : State) : Nat := 8 * s.core.inBytesTotal - s.core.bitcnt.toNat

/-- `GetBits(n)`'s writes: the next `n` bits are removed (spec/40_bitreader.md R101). -/
def State.dropBits (n : Nat) (s : State) : State :=
  { s with core.bitbuf := s.core.bitbuf >>> n, core.bitcnt := s.core.bitcnt - BitVec.ofNat 6 n }

/-- `AlignToByte()` (spec/40_bitreader.md R106). -/
def State.alignToByte (s : State) : State := s.dropBits (s.core.bitcnt.toNat % 8)

/-- One code bit of a symbol decode: `HCODE <- (HCODE << 1) | GetBits(1)`, `HCNT <- HCNT + 1` (spec/41_huffman.md R131). -/
def State.takeCodeBit (s : State) : State :=
  { s.dropBits 1 with
    core.hcode := pushBit s.core.hcode (s.core.bitbuf.getLsbD 0)
    core.hcnt := s.core.hcnt + 1 }

/-- `HCODE <- 0; HCNT <- 0`, on entry to a decode (spec/10_state.md R36). -/
def State.clearCode (s : State) : State := { s with core.hcode := 0, core.hcnt := 0 }

/-- `PHASE <- p`. -/
def State.goto (p : Phase) (s : State) : State := { s with core.phase := p }

/-! ## Raising an error -/

/-- `raise E(d, t)`: the error is recorded and the core stops in `ERROR`; the registers of `CoreRegs` take a free value;
everything else is kept (spec/60_exceptions.md R303; notes/assumptions/5.md). There is no return from an error but OPEN
or a power-on reset (R305). -/
def raiseError (e : ErrCode) (d : ErrDetail) (t : ErrTable) (s : State) : State :=
  { s with
    errCode := e, errDetail := d, errTable := t, state := .error
    core := Config.freeRegs s.draws, draws := s.draws.next }

/-! ## Window, flush and CRC -/

/-- One bit of the CRC register (spec/44_window_crc.md R263). -/
def crcBit (c : Word) : Word := if c.getLsbD 0 then (c >>> 1) ^^^ 0xEDB88320#32 else c >>> 1

/-- `k` bits of the CRC register. -/
def crcBits : Nat → Word → Word
  | 0, c => c
  | k + 1, c => crcBits k (crcBit c)

/-- `crc_update(c, b)` (spec/44_window_crc.md R263). -/
def crcUpdate (c : Word) (b : Byte) : Word := crcBits 8 (c ^^^ b.setWidth 32)

/-- The CRC register after the bytes, from `c`. -/
def crcOver (c : Word) (bs : List Byte) : Word := bs.foldl crcUpdate c

/-- The byte in window cell `i`; a free draw where the cell holds no value (spec/10_state.md R52). -/
def State.cell (s : State) (i : Nat) : Byte := (s.window.read i).getD (Config.freeByte s.draws i)

/-- The draws made by reading cell `i`: one where the cell holds no value. -/
def State.cellDraws (s : State) (i : Nat) : Draw := if (s.window.read i).isSome then s.draws else s.draws.next

/-- `window[0..W)`, the bytes of a flush (spec/44_window_crc.md R262). -/
def State.flushBytes (s : State) : List Byte := (List.range s.core.w.toNat).map s.cell

/-- `Flush(final)` (spec/44_window_crc.md R262). Called last in its action, when the action's other writes are done
(R261). -/
def flush (final : Bool) (s : State) : State :=
  { s with
    outlog := s.outlog ++ [{ bytes := s.flushBytes, final := final }]
    crcState := crcOver s.crcState s.flushBytes
    count := s.count + s.core.w.setWidth 32
    flushLen := s.core.w
    finalFlush := final
    state := .flush }

/-- `HAVE <- min(HAVE + 1, 32768)` (spec/44_window_crc.md R260, spec/00_scope.md R13). -/
def haveNext (h : BitVec 16) : BitVec 16 := if h.toNat < Config.windowSize then h + 1 else 32768

/-- The writes of `WindowWrite(b)` before its flush: cell, `W`, `HAVE` (spec/44_window_crc.md R260). -/
def State.putByte (b : Byte) (s : State) : State :=
  { s with
    window := s.window.write s.core.w.toNat b
    core.w := s.core.w + 1
    core.haveCount := haveNext s.core.haveCount }

/-- `WindowWrite(b)` (spec/44_window_crc.md R260, R261). Called last in its action (notes/assumptions/10.md). `W` is below
32768 whenever the core is BUSY; at 32768 and above the window has no such cell, a fault. -/
def windowWrite (b : Byte) (s : State) : Result :=
  if s.core.w.toNat < Config.windowSize then
    .next (if s.core.w.toNat + 1 = Config.windowSize then flush false (s.putByte b) else s.putByte b)
  else .fault .windowIndex

/-- The source cell of the next byte of a match, `(W - MDIST) mod 32768` (spec/20_memory.md R67, spec/90_conflicts.md C4). -/
def matchSource (w mdist : Nat) : Nat :=
  (((w : Int) - (mdist : Int)) % ((Config.windowSize : Nat) : Int)).toNat

/-! ## Blocks -/

/-- `EndOfBlock()` (spec/42_block.md R159). -/
def State.endOfBlock (s : State) : State := s.goto (if s.core.bfinal then .fEnd else .hBfinal)

/-! ## Commands -/

/-- A rejected command: `REJECT <- 1` and nothing else (spec/45_host.md R288). -/
def State.rejected (s : State) : State := { s with reject := true }

/-- An accepted command: `REJECT <- 0` before its effect (spec/45_host.md R282). -/
def State.accepted (s : State) : State := { s with reject := false }

/-- `CHECK`'s comparison, CRC first (spec/44_window_crc.md R269, spec/60_exceptions.md R304). -/
def State.compareTrailer (s : State) : State :=
  if s.crcWord ≠ s.declCrc then raiseError .crcMismatch .trailerCrc .none s
  else if s.count ≠ s.declLen then raiseError .lengthMismatch .trailerLen .none s
  else { s with verified := true }

/-- The stream reset that OPEN makes: every register to its reset value, the input port and the output log emptied;
window cells and `CONFIG` kept (spec/70_reset_and_hazards.md R331, R332). -/
def State.openReset (s : State) : State :=
  { State.reset with
    config := s.config, window := s.window
    agenda := s.agenda, reply := s.reply, draws := s.draws }

/-- Power-on reset of an instance: as OPEN's, and every window cell loses its value; `CONFIG` is the instance's parameters
(spec/70_reset_and_hazards.md R330; notes/assumptions/22.md). -/
def State.powerOnReset (s : State) : State :=
  { State.reset with config := s.config, agenda := s.agenda, reply := s.reply, draws := s.draws }

end Sys2Proof.Machine
end

