-- ==== Sys2Proof/Syntax.lean ====
section
/-! DEFINITION. The instructions of the core: one constructor per row of spec/opcode_table.json, in the table's order.
A row whose element takes more than one action carries an operand that says which (notes/assumptions/12.md). -/

namespace Sys2Proof

/-- The stream elements and the host commands (spec/30_encoding.md R80, R91). -/
inductive Instr where
  /-- `OPEN` (spec/45_host.md R283). -/
  | openStream
  /-- `RESUME` (spec/45_host.md R284). -/
  | resume
  /-- `READ_BYTE` (spec/45_host.md R285). -/
  | readByte (p : CmdPart)
  /-- `CHECK` (spec/45_host.md R286). -/
  | check
  /-- `CHECK_TRAILER` (spec/45_host.md R287). -/
  | checkTrailer (p : CmdPart)
  /-- `CMD_RESERVED` (spec/45_host.md R288). -/
  | cmdReserved (w : Word)
  /-- `BLK_STORED` (spec/42_block.md R152). -/
  | blkStored (f : Bool)
  /-- `BLK_FIXED` (spec/42_block.md R153). -/
  | blkFixed (f : Bool)
  /-- `BLK_DYNAMIC` (spec/42_block.md R154). -/
  | blkDynamic (f : Bool)
  /-- `BLK_RESERVED` (spec/42_block.md R155). -/
  | blkReserved (f : Bool)
  /-- `STORED` (spec/42_block.md R156–R158). -/
  | stored (x : StoredField)
  /-- `DYNHDR` (spec/42_block.md R160–R164). -/
  | dynhdr (x : DynField)
  /-- `CL_LEN` (spec/42_block.md R166). -/
  | clLen (v : BitVec 4)
  /-- `CL_REP_PREV` (spec/42_block.md R167, R170). -/
  | clRepPrev (p : SymPart 2)
  /-- `CL_REP_ZERO_S` (spec/42_block.md R168, R170). -/
  | clRepZeroS (p : SymPart 3)
  /-- `CL_REP_ZERO_L` (spec/42_block.md R169, R170). -/
  | clRepZeroL (p : SymPart 7)
  /-- `LIT` (spec/43_symbols.md R181). -/
  | lit (c : Byte)
  /-- `EOB` (spec/43_symbols.md R182). -/
  | eob
  /-- `LEN_257` (spec/43_symbols.md R185). -/
  | len257 (p : SymPart 0)
  /-- `LEN_258` (spec/43_symbols.md R186). -/
  | len258 (p : SymPart 0)
  /-- `LEN_259` (spec/43_symbols.md R187). -/
  | len259 (p : SymPart 0)
  /-- `LEN_260` (spec/43_symbols.md R188). -/
  | len260 (p : SymPart 0)
  /-- `LEN_261` (spec/43_symbols.md R189). -/
  | len261 (p : SymPart 0)
  /-- `LEN_262` (spec/43_symbols.md R190). -/
  | len262 (p : SymPart 0)
  /-- `LEN_263` (spec/43_symbols.md R191). -/
  | len263 (p : SymPart 0)
  /-- `LEN_264` (spec/43_symbols.md R192). -/
  | len264 (p : SymPart 0)
  /-- `LEN_265` (spec/43_symbols.md R193). -/
  | len265 (p : SymPart 1)
  /-- `LEN_266` (spec/43_symbols.md R194). -/
  | len266 (p : SymPart 1)
  /-- `LEN_267` (spec/43_symbols.md R195). -/
  | len267 (p : SymPart 1)
  /-- `LEN_268` (spec/43_symbols.md R196). -/
  | len268 (p : SymPart 1)
  /-- `LEN_269` (spec/43_symbols.md R197). -/
  | len269 (p : SymPart 2)
  /-- `LEN_270` (spec/43_symbols.md R198). -/
  | len270 (p : SymPart 2)
  /-- `LEN_271` (spec/43_symbols.md R199). -/
  | len271 (p : SymPart 2)
  /-- `LEN_272` (spec/43_symbols.md R200). -/
  | len272 (p : SymPart 2)
  /-- `LEN_273` (spec/43_symbols.md R201). -/
  | len273 (p : SymPart 3)
  /-- `LEN_274` (spec/43_symbols.md R202). -/
  | len274 (p : SymPart 3)
  /-- `LEN_275` (spec/43_symbols.md R203). -/
  | len275 (p : SymPart 3)
  /-- `LEN_276` (spec/43_symbols.md R204). -/
  | len276 (p : SymPart 3)
  /-- `LEN_277` (spec/43_symbols.md R205). -/
  | len277 (p : SymPart 4)
  /-- `LEN_278` (spec/43_symbols.md R206). -/
  | len278 (p : SymPart 4)
  /-- `LEN_279` (spec/43_symbols.md R207). -/
  | len279 (p : SymPart 4)
  /-- `LEN_280` (spec/43_symbols.md R208). -/
  | len280 (p : SymPart 4)
  /-- `LEN_281` (spec/43_symbols.md R209). -/
  | len281 (p : SymPart 5)
  /-- `LEN_282` (spec/43_symbols.md R210). -/
  | len282 (p : SymPart 5)
  /-- `LEN_283` (spec/43_symbols.md R211). -/
  | len283 (p : SymPart 5)
  /-- `LEN_284` (spec/43_symbols.md R212). -/
  | len284 (p : SymPart 5)
  /-- `LEN_285` (spec/43_symbols.md R213). -/
  | len285 (p : SymPart 0)
  /-- `LL_INVALID_286` (spec/43_symbols.md R184). -/
  | llInvalid286
  /-- `LL_INVALID_287` (spec/43_symbols.md R184). -/
  | llInvalid287
  /-- `DIST_0` (spec/43_symbols.md R217). -/
  | dist0 (p : DistPart 0)
  /-- `DIST_1` (spec/43_symbols.md R218). -/
  | dist1 (p : DistPart 0)
  /-- `DIST_2` (spec/43_symbols.md R219). -/
  | dist2 (p : DistPart 0)
  /-- `DIST_3` (spec/43_symbols.md R220). -/
  | dist3 (p : DistPart 0)
  /-- `DIST_4` (spec/43_symbols.md R221). -/
  | dist4 (p : DistPart 1)
  /-- `DIST_5` (spec/43_symbols.md R222). -/
  | dist5 (p : DistPart 1)
  /-- `DIST_6` (spec/43_symbols.md R223). -/
  | dist6 (p : DistPart 2)
  /-- `DIST_7` (spec/43_symbols.md R224). -/
  | dist7 (p : DistPart 2)
  /-- `DIST_8` (spec/43_symbols.md R225). -/
  | dist8 (p : DistPart 3)
  /-- `DIST_9` (spec/43_symbols.md R226). -/
  | dist9 (p : DistPart 3)
  /-- `DIST_10` (spec/43_symbols.md R227). -/
  | dist10 (p : DistPart 4)
  /-- `DIST_11` (spec/43_symbols.md R228). -/
  | dist11 (p : DistPart 4)
  /-- `DIST_12` (spec/43_symbols.md R229). -/
  | dist12 (p : DistPart 5)
  /-- `DIST_13` (spec/43_symbols.md R230). -/
  | dist13 (p : DistPart 5)
  /-- `DIST_14` (spec/43_symbols.md R231). -/
  | dist14 (p : DistPart 6)
  /-- `DIST_15` (spec/43_symbols.md R232). -/
  | dist15 (p : DistPart 6)
  /-- `DIST_16` (spec/43_symbols.md R233). -/
  | dist16 (p : DistPart 7)
  /-- `DIST_17` (spec/43_symbols.md R234). -/
  | dist17 (p : DistPart 7)
  /-- `DIST_18` (spec/43_symbols.md R235). -/
  | dist18 (p : DistPart 8)
  /-- `DIST_19` (spec/43_symbols.md R236). -/
  | dist19 (p : DistPart 8)
  /-- `DIST_20` (spec/43_symbols.md R237). -/
  | dist20 (p : DistPart 9)
  /-- `DIST_21` (spec/43_symbols.md R238). -/
  | dist21 (p : DistPart 9)
  /-- `DIST_22` (spec/43_symbols.md R239). -/
  | dist22 (p : DistPart 10)
  /-- `DIST_23` (spec/43_symbols.md R240). -/
  | dist23 (p : DistPart 10)
  /-- `DIST_24` (spec/43_symbols.md R241). -/
  | dist24 (p : DistPart 11)
  /-- `DIST_25` (spec/43_symbols.md R242). -/
  | dist25 (p : DistPart 11)
  /-- `DIST_26` (spec/43_symbols.md R243). -/
  | dist26 (p : DistPart 12)
  /-- `DIST_27` (spec/43_symbols.md R244). -/
  | dist27 (p : DistPart 12)
  /-- `DIST_28` (spec/43_symbols.md R245). -/
  | dist28 (p : DistPart 13)
  /-- `DIST_29` (spec/43_symbols.md R246). -/
  | dist29 (p : DistPart 13)
  /-- `DIST_INVALID_30` (spec/43_symbols.md R216). -/
  | distInvalid30
  /-- `DIST_INVALID_31` (spec/43_symbols.md R216). -/
  | distInvalid31
deriving DecidableEq, Repr

end Sys2Proof
end

