-- ==== Sys2Proof/Machine/Block.lean ====
section
/-! DEFINITION. The block headers (spec/42_block.md R150–R155). The operand `f` is `BFINAL`, the header's first bit
(spec/30_encoding.md R81; notes/assumptions/13.md). -/

namespace Sys2Proof.Machine

/-- A header's two fields in their registers (spec/42_block.md R150, R151). -/
def State.setHeader (f : Bool) (btype : BitVec 2) (s : State) : State :=
  { s with core.bfinal := f, core.btype := btype }

/-- `BLK_STORED` (spec/42_block.md R152). -/
def execBlkStored (f : Bool) (s : State) : Result := .next ((s.setHeader f 0).alignToByte.goto .sLen)

/-- `BLK_FIXED` (spec/42_block.md R153). -/
def execBlkFixed (f : Bool) (s : State) : Result :=
  .next { (s.setHeader f 1).clearCode.goto .lSym with core.curLit := .fixed, core.curDist := .fixed }

/-- `BLK_DYNAMIC` (spec/42_block.md R154), which selects the dynamic tables (spec/10_state.md R38;
notes/assumptions/30.md). -/
def execBlkDynamic (f : Bool) (s : State) : Result :=
  .next { (s.setHeader f 2).goto .dHlit with core.curLit := .dyn, core.curDist := .dyn }

/-- `BLK_RESERVED` (spec/42_block.md R155). -/
def execBlkReserved (f : Bool) (s : State) : Result :=
  .next (raiseError .badHuffmanTable .badBtype .none (s.setHeader f 3))

end Sys2Proof.Machine
end

