-- ==== Sys2Proof/Machine/CodeLen.lean ====
section
/-! DEFINITION. Code-length symbols (spec/42_block.md R165–R170). -/

namespace Sys2Proof.Machine

/-- `LENS[start .. start + n - 1] <- v`. -/
def fillLens (lens : Vector (BitVec 4) 316) (start : Nat) (v : BitVec 4) : Nat → Vector (BitVec 4) 316
  | 0 => lens
  | n + 1 => (fillLens lens start v n).setIfInBounds (start + n) v

/-- `HLIT + HDIST`, the number of lengths the block codes (spec/42_block.md R166). -/
def State.lengthTotal (s : State) : Nat := s.core.hlit.toNat + s.core.hdist.toNat

/-- `r` lengths of value `v` are written at `LIDX`, and `LIDX` advances (spec/42_block.md R166, R170). A length past
`LENS[315]` is a fault. -/
def storeLengths (r : Nat) (v : BitVec 4) (s : State) : Result :=
  if s.core.lidx.toNat + r ≤ 316 then
    .next
      { s with
        core.lens := fillLens s.core.lens s.core.lidx.toNat v r
        core.lidx := s.core.lidx + BitVec.ofNat 9 r
        core.phase := if s.core.lidx.toNat + r = s.lengthTotal then .dBuild else .dLensym
        core.hcode := if s.core.lidx.toNat + r = s.lengthTotal then s.core.hcode else 0
        core.hcnt := if s.core.lidx.toNat + r = s.lengthTotal then s.core.hcnt else 0 }
  else .fault .lengthIndex

/-- `D_REPEAT` once `e` is read: `r` copies of `v`, an error where they run past `HLIT + HDIST` (spec/42_block.md R170). -/
def repeatLengths (r : Nat) (v : BitVec 4) (s : State) : Result :=
  if s.lengthTotal < s.core.lidx.toNat + r then
    .next (raiseError .badHuffmanTable .repeatOverflow .codeLength s)
  else storeLengths r v s

/-- The previous length, 0 where there is none (spec/42_block.md R170). -/
def State.previousLength (s : State) : BitVec 4 :=
  if s.core.lidx = 0 then 0 else (s.core.lens[s.core.lidx.toNat - 1]?).getD 0

/-- `RSYM <- sym; PHASE <- D_REPEAT` (spec/42_block.md R167–R169). -/
def State.beginRepeat (sym : BitVec 5) (s : State) : State := ({ s with core.rsym := sym } : State).goto .dRepeat

/-- `CL_LEN` (spec/42_block.md R166). -/
def execClLen (v : BitVec 4) (s : State) : Result := storeLengths 1 v s

/-- `CL_REP_PREV` (spec/42_block.md R167, R170): 3 to 6 times the previous length. -/
def execClRepPrev (p : SymPart 2) (s : State) : Result :=
  match p with
  | .code =>
    if s.core.lidx = 0 ∧ s.config.repeatNoPrev = .fault then
      .next (raiseError .badHuffmanTable .repeatNoPrev .codeLength s)
    else .next (s.beginRepeat 16)
  | .extra e => repeatLengths (3 + e.toNat) s.previousLength s

/-- `CL_REP_ZERO_S` (spec/42_block.md R168, R170): 3 to 10 zeros. -/
def execClRepZeroS (p : SymPart 3) (s : State) : Result :=
  match p with
  | .code => .next (s.beginRepeat 17)
  | .extra e => repeatLengths (3 + e.toNat) 0 s

/-- `CL_REP_ZERO_L` (spec/42_block.md R169, R170): 11 to 138 zeros. -/
def execClRepZeroL (p : SymPart 7) (s : State) : Result :=
  match p with
  | .code => .next (s.beginRepeat 18)
  | .extra e => repeatLengths (11 + e.toNat) 0 s

end Sys2Proof.Machine
end

