-- ==== Sys2Proof/Machine/Commands.lean ====
section
/-! DEFINITION. The host commands (spec/45_host.md R281–R288): acceptance by `STATE`, effect, and the byte actions of
READ_BYTE and CHECK_TRAILER. -/

namespace Sys2Proof.Machine

/-- `OPEN`, accepted in every state (spec/45_host.md R283). -/
def execOpenStream (s : State) : Result := .next s.openReset

/-- The window side of RESUME in `FLUSH` (spec/44_window_crc.md R266). -/
def State.endFlush (s : State) : State :=
  if s.finalFlush then { s with core.w := 0, finalFlush := false, state := .done }
  else { s with core.w := 0, state := .busy }

/-- `RESUME` (spec/45_host.md R284). -/
def execResume (s : State) : Result :=
  match s.state with
  | .idle => .next { s.accepted with state := .busy }
  | .flush => .next s.accepted.endFlush
  | .done => .next s.accepted
  | .error => .next s.accepted
  | .busy => .next s.rejected

/-- `READ_BYTE`: the command, accepted in `DONE`, and the action of `C_RDBYTE` (spec/45_host.md R285). -/
def execReadByte (p : CmdPart) (s : State) : Result :=
  match p with
  | .command =>
    if s.state = .done then .next { s.accepted.goto .cRdbyte with state := .busy } else .next s.rejected
  | .byte b => .next { s.goto .xDone with core.data := b, state := .done }

/-- `CHECK`, accepted in `DONE` (spec/45_host.md R286). -/
def execCheck (s : State) : Result :=
  if s.state = .done then .next s.accepted.compareTrailer else .next s.rejected

/-- The trailer byte number `TIDX` goes to `DECL_CRC` (0 to 3) or `DECL_LEN` (4 to 7), low byte first, and `TIDX`
advances (spec/45_host.md R287, spec/20_memory.md R64). -/
def State.putTrailerByte (b : Byte) (s : State) : State :=
  if s.core.tidx.toNat < 4 then
    { s with declCrc := setByte s.declCrc s.core.tidx.toNat b, core.tidx := s.core.tidx + 1 }
  else
    { s with declLen := setByte s.declLen (s.core.tidx.toNat - 4) b, core.tidx := s.core.tidx + 1 }

/-- `CHECK_TRAILER`: the command, accepted in `DONE`, and the action of `C_TRAILER`, whose eighth byte ends in a CHECK
(spec/45_host.md R287). -/
def execCheckTrailer (p : CmdPart) (s : State) : Result :=
  match p with
  | .command =>
    if s.state = .done then .next { s.accepted.goto .cTrailer with core.tidx := 0, state := .busy }
    else .next s.rejected
  | .byte b =>
    if s.core.tidx.toNat + 1 = 8 then
      .next ({ (s.putTrailerByte b).goto .xDone with state := .done } : State).compareTrailer
    else .next (s.putTrailerByte b)

/-- A reserved command word is rejected in every state (spec/45_host.md R281, R288; spec/30_encoding.md R91). -/
def execCmdReserved (s : State) : Result := .next s.rejected

end Sys2Proof.Machine
end

