-- ==== Sys2Proof/Machine/Dist.lean ====
section
/-! DEFINITION. Distance symbols and the back-reference engine (spec/43_symbols.md R214–R248). -/

namespace Sys2Proof.Machine

/-- `L_DISTX` once `e` is read: the distance, its check, the start of the copy (spec/43_symbols.md R215). -/
def takeDistance (mdist : BitVec 16) (s : State) : State :=
  if s.core.haveCount.toNat < mdist.toNat ∧ s.config.distTooFar = .fault then
    raiseError .badHuffmanTable .distTooFar .dist s
  else ({ s with core.mdist := mdist, core.mrem := s.core.mlen } : State).goto .lCopy

/-- The register writes of `L_COPY`: `MREM <- MREM - 1`, and the return to `L_SYM` after the last byte
(spec/43_symbols.md R247). -/
def State.countMatch (s : State) : State :=
  if s.core.mrem - 1 = 0 then ({ s with core.mrem := s.core.mrem - 1 } : State).clearCode.goto .lSym
  else { s with core.mrem := s.core.mrem - 1 }

/-- The cell the next byte of the match is copied from. -/
def State.sourceCell (s : State) : Nat := matchSource s.core.w.toNat s.core.mdist.toNat

/-- `L_COPY`: one byte of the match, its source read before its destination is written (spec/43_symbols.md R247). A cell
with no value yields a free draw (spec/10_state.md R52). -/
def copyByte (s : State) : Result :=
  windowWrite (s.cell s.sourceCell) { s.countMatch with draws := s.cellDraws s.sourceCell }

/-- A distance symbol (spec/43_symbols.md R214, R215, R247): its code sets `DSYM`, its extra field gives
`MDIST <- base + e` (notes/assumptions/28.md), and each copy moves one byte. -/
def distanceElement {x : Nat} (sym : BitVec 5) (base : Nat) (p : DistPart x) (s : State) : Result :=
  match p with
  | .code => .next (({ s with core.dsym := sym } : State).goto .lDistx)
  | .extra e => .next (takeDistance (BitVec.ofNat 16 (base + e.toNat)) s)
  | .copy => copyByte s

/-- `DIST_0` (spec/43_symbols.md R217): 0 extra bits, base 1. -/
def execDist0 (p : DistPart 0) (s : State) : Result := distanceElement 0 1 p s

/-- `DIST_1` (spec/43_symbols.md R218): 0 extra bits, base 2. -/
def execDist1 (p : DistPart 0) (s : State) : Result := distanceElement 1 2 p s

/-- `DIST_2` (spec/43_symbols.md R219): 0 extra bits, base 3. -/
def execDist2 (p : DistPart 0) (s : State) : Result := distanceElement 2 3 p s

/-- `DIST_3` (spec/43_symbols.md R220): 0 extra bits, base 4. -/
def execDist3 (p : DistPart 0) (s : State) : Result := distanceElement 3 4 p s

/-- `DIST_4` (spec/43_symbols.md R221): 1 extra bit, base 5. -/
def execDist4 (p : DistPart 1) (s : State) : Result := distanceElement 4 5 p s

/-- `DIST_5` (spec/43_symbols.md R222): 1 extra bit, base 7. -/
def execDist5 (p : DistPart 1) (s : State) : Result := distanceElement 5 7 p s

/-- `DIST_6` (spec/43_symbols.md R223): 2 extra bits, base 9. -/
def execDist6 (p : DistPart 2) (s : State) : Result := distanceElement 6 9 p s

/-- `DIST_7` (spec/43_symbols.md R224): 2 extra bits, base 13. -/
def execDist7 (p : DistPart 2) (s : State) : Result := distanceElement 7 13 p s

/-- `DIST_8` (spec/43_symbols.md R225): 3 extra bits, base 17. -/
def execDist8 (p : DistPart 3) (s : State) : Result := distanceElement 8 17 p s

/-- `DIST_9` (spec/43_symbols.md R226): 3 extra bits, base 25. -/
def execDist9 (p : DistPart 3) (s : State) : Result := distanceElement 9 25 p s

/-- `DIST_10` (spec/43_symbols.md R227): 4 extra bits, base 33. -/
def execDist10 (p : DistPart 4) (s : State) : Result := distanceElement 10 33 p s

/-- `DIST_11` (spec/43_symbols.md R228): 4 extra bits, base 49. -/
def execDist11 (p : DistPart 4) (s : State) : Result := distanceElement 11 49 p s

/-- `DIST_12` (spec/43_symbols.md R229): 5 extra bits, base 65. -/
def execDist12 (p : DistPart 5) (s : State) : Result := distanceElement 12 65 p s

/-- `DIST_13` (spec/43_symbols.md R230): 5 extra bits, base 97. -/
def execDist13 (p : DistPart 5) (s : State) : Result := distanceElement 13 97 p s

/-- `DIST_14` (spec/43_symbols.md R231): 6 extra bits, base 129. -/
def execDist14 (p : DistPart 6) (s : State) : Result := distanceElement 14 129 p s

/-- `DIST_15` (spec/43_symbols.md R232): 6 extra bits, base 193. -/
def execDist15 (p : DistPart 6) (s : State) : Result := distanceElement 15 193 p s

/-- `DIST_16` (spec/43_symbols.md R233): 7 extra bits, base 257. -/
def execDist16 (p : DistPart 7) (s : State) : Result := distanceElement 16 257 p s

/-- `DIST_17` (spec/43_symbols.md R234): 7 extra bits, base 385. -/
def execDist17 (p : DistPart 7) (s : State) : Result := distanceElement 17 385 p s

/-- `DIST_18` (spec/43_symbols.md R235): 8 extra bits, base 513. -/
def execDist18 (p : DistPart 8) (s : State) : Result := distanceElement 18 513 p s

/-- `DIST_19` (spec/43_symbols.md R236): 8 extra bits, base 769. -/
def execDist19 (p : DistPart 8) (s : State) : Result := distanceElement 19 769 p s

/-- `DIST_20` (spec/43_symbols.md R237): 9 extra bits, base 1025. -/
def execDist20 (p : DistPart 9) (s : State) : Result := distanceElement 20 1025 p s

/-- `DIST_21` (spec/43_symbols.md R238): 9 extra bits, base 1537. -/
def execDist21 (p : DistPart 9) (s : State) : Result := distanceElement 21 1537 p s

/-- `DIST_22` (spec/43_symbols.md R239): 10 extra bits, base 2049. -/
def execDist22 (p : DistPart 10) (s : State) : Result := distanceElement 22 2049 p s

/-- `DIST_23` (spec/43_symbols.md R240): 10 extra bits, base 3073. -/
def execDist23 (p : DistPart 10) (s : State) : Result := distanceElement 23 3073 p s

/-- `DIST_24` (spec/43_symbols.md R241): 11 extra bits, base 4097. -/
def execDist24 (p : DistPart 11) (s : State) : Result := distanceElement 24 4097 p s

/-- `DIST_25` (spec/43_symbols.md R242): 11 extra bits, base 6145. -/
def execDist25 (p : DistPart 11) (s : State) : Result := distanceElement 25 6145 p s

/-- `DIST_26` (spec/43_symbols.md R243): 12 extra bits, base 8193. -/
def execDist26 (p : DistPart 12) (s : State) : Result := distanceElement 26 8193 p s

/-- `DIST_27` (spec/43_symbols.md R244): 12 extra bits, base 12289. -/
def execDist27 (p : DistPart 12) (s : State) : Result := distanceElement 27 12289 p s

/-- `DIST_28` (spec/43_symbols.md R245): 13 extra bits, base 16385. -/
def execDist28 (p : DistPart 13) (s : State) : Result := distanceElement 28 16385 p s

/-- `DIST_29` (spec/43_symbols.md R246): 13 extra bits, base 24577. -/
def execDist29 (p : DistPart 13) (s : State) : Result := distanceElement 29 24577 p s

/-- Symbol 30, `DIST_INVALID` (spec/43_symbols.md R216). -/
def execDistInvalid30 (s : State) : Result :=
  .next (raiseError .badHuffmanTable .invalidCode .dist { s with core.dsym := 30 })

/-- Symbol 31, `DIST_INVALID` (spec/43_symbols.md R216). -/
def execDistInvalid31 (s : State) : Result :=
  .next (raiseError .badHuffmanTable .invalidCode .dist { s with core.dsym := 31 })

end Sys2Proof.Machine
end

