-- ==== Sys2Proof/Machine/DynHeader.lean ====
section
/-! DEFINITION. Dynamic block headers (spec/42_block.md R160–R164) and the build of the two symbol tables (R171). -/

namespace Sys2Proof.Machine

/-- The draws made by one action that builds dynamic tables (spec/41_huffman.md R128; notes/assumptions/4.md). -/
def State.buildDraws (s : State) : Draw := if s.config.oomPossible then s.draws.next else s.draws

/-- `D_HCLEN` (spec/42_block.md R162). -/
def takeHclen (v : BitVec 4) (s : State) : State :=
  if 286 < s.core.hlit.toNat ∨ 30 < s.core.hdist.toNat then raiseError .badHuffmanTable .badCounts .none s
  else
    { s with
      core.hclen := v.setWidth 5 + 4, core.clLens := Vector.replicate 19 0, core.clidx := 0
      core.phase := .dCllen }

/-- `D_CLLEN`: the length of symbol `CL_ORDER[CLIDX]` (spec/42_block.md R163). -/
def takeClLen (v : BitVec 3) (s : State) : Result :=
  match clOrder[s.core.clidx.toNat]? with
  | none => .fault .lengthIndex
  | some sym =>
    .next
      { s with
        core.clLens := s.core.clLens.setIfInBounds sym v
        core.clidx := s.core.clidx + 1
        core.phase := if s.core.clidx + 1 = s.core.hclen then .dClbuild else s.core.phase }

/-- The lengths of the code-length alphabet, as `Build` takes them. -/
def State.clLengths (s : State) : List Nat := s.core.clLens.toList.map BitVec.toNat

/-- `LENS[0..HLIT-1]` (spec/41_huffman.md R120). -/
def State.litLengths (s : State) : List Nat := (s.core.lens.toList.take s.core.hlit.toNat).map BitVec.toNat

/-- `LENS[HLIT..HLIT+HDIST-1]` (spec/41_huffman.md R120). -/
def State.distLengths (s : State) : List Nat :=
  ((s.core.lens.toList.drop s.core.hlit.toNat).take s.core.hdist.toNat).map BitVec.toNat

/-- `D_CLBUILD` (spec/42_block.md R164). -/
def buildCodeLengthTable (s : State) : State :=
  match buildDynamic .cl s.clLengths s with
  | .error (e, d) => raiseError e d .codeLength s
  | .ok t =>
    { s with
      core.tblCl := t, core.lens := Vector.replicate 316 0, core.lidx := 0
      core.hcode := 0, core.hcnt := 0, core.phase := .dLensym, draws := s.buildDraws }

/-- `DYNHDR`: the three counts, one 3-bit length, the build of the code-length table (spec/42_block.md R160–R164). -/
def execDynhdr (x : DynField) (s : State) : Result :=
  match x with
  | .hlit v => .next { s with core.hlit := v.setWidth 9 + 257, core.phase := .dHdist }
  | .hdist v => .next { s with core.hdist := v.setWidth 6 + 1, core.phase := .dHclen }
  | .hclen v => .next (takeHclen v s)
  | .clLen v => takeClLen v s
  | .build => .next (buildCodeLengthTable s)

/-- `D_BUILD`: the literal/length table is built, and its error reported, first (spec/42_block.md R171,
spec/60_exceptions.md R304). R171's pseudocode sets `CUR_LIT` and `CUR_DIST` to `DYN`, which they are since `BLK_DYNAMIC`
(`State.ControlOk.dynamic`; notes/assumptions/30.md). -/
def buildSymbolTables (s : State) : State :=
  match buildDynamic .ll s.litLengths s with
  | .error (e, d) => raiseError e d .litLen s
  | .ok lt =>
    match buildDynamic .dist s.distLengths s with
    | .error (e, d) => raiseError e d .dist s
    | .ok dt =>
      { s with
        core.tblLit := lt, core.tblDist := dt, core.curLit := .dyn, core.curDist := .dyn
        core.hcode := 0, core.hcnt := 0, core.phase := .lSym, draws := s.buildDraws }

end Sys2Proof.Machine
end

