-- ==== Sys2Proof/Machine/LitLen.lean ====
section
/-! DEFINITION. Literal/length symbols (spec/43_symbols.md R180–R213). -/

namespace Sys2Proof.Machine

/-- A length symbol (spec/43_symbols.md R183): its code sets `MSYM`, its extra field, of 0
to 5 bits, sets `MLEN <- base + e` (notes/assumptions/28.md). -/
def lengthElement {x : Nat} (sym : BitVec 9) (base : Nat) (p : SymPart x) (s : State) : State :=
  match p with
  | .code => ({ s with core.msym := sym } : State).goto .lLenx
  | .extra e => ({ s with core.mlen := BitVec.ofNat 9 (base + e.toNat) } : State).clearCode.goto .lDsym

/-- `LIT` (spec/43_symbols.md R181). -/
def execLit (c : Byte) (s : State) : Result := windowWrite c s.clearCode

/-- `EOB` (spec/43_symbols.md R182). -/
def execEob (s : State) : Result := .next s.endOfBlock

/-- `LEN_257` (spec/43_symbols.md R185): 0 extra bits, base 3. -/
def execLen257 (p : SymPart 0) (s : State) : Result := .next (lengthElement 257 3 p s)

/-- `LEN_258` (spec/43_symbols.md R186): 0 extra bits, base 4. -/
def execLen258 (p : SymPart 0) (s : State) : Result := .next (lengthElement 258 4 p s)

/-- `LEN_259` (spec/43_symbols.md R187): 0 extra bits, base 5. -/
def execLen259 (p : SymPart 0) (s : State) : Result := .next (lengthElement 259 5 p s)

/-- `LEN_260` (spec/43_symbols.md R188): 0 extra bits, base 6. -/
def execLen260 (p : SymPart 0) (s : State) : Result := .next (lengthElement 260 6 p s)

/-- `LEN_261` (spec/43_symbols.md R189): 0 extra bits, base 7. -/
def execLen261 (p : SymPart 0) (s : State) : Result := .next (lengthElement 261 7 p s)

/-- `LEN_262` (spec/43_symbols.md R190): 0 extra bits, base 8. -/
def execLen262 (p : SymPart 0) (s : State) : Result := .next (lengthElement 262 8 p s)

/-- `LEN_263` (spec/43_symbols.md R191): 0 extra bits, base 9. -/
def execLen263 (p : SymPart 0) (s : State) : Result := .next (lengthElement 263 9 p s)

/-- `LEN_264` (spec/43_symbols.md R192): 0 extra bits, base 10. -/
def execLen264 (p : SymPart 0) (s : State) : Result := .next (lengthElement 264 10 p s)

/-- `LEN_265` (spec/43_symbols.md R193): 1 extra bit, base 11. -/
def execLen265 (p : SymPart 1) (s : State) : Result := .next (lengthElement 265 11 p s)

/-- `LEN_266` (spec/43_symbols.md R194): 1 extra bit, base 13. -/
def execLen266 (p : SymPart 1) (s : State) : Result := .next (lengthElement 266 13 p s)

/-- `LEN_267` (spec/43_symbols.md R195): 1 extra bit, base 15. -/
def execLen267 (p : SymPart 1) (s : State) : Result := .next (lengthElement 267 15 p s)

/-- `LEN_268` (spec/43_symbols.md R196): 1 extra bit, base 17. -/
def execLen268 (p : SymPart 1) (s : State) : Result := .next (lengthElement 268 17 p s)

/-- `LEN_269` (spec/43_symbols.md R197): 2 extra bits, base 19. -/
def execLen269 (p : SymPart 2) (s : State) : Result := .next (lengthElement 269 19 p s)

/-- `LEN_270` (spec/43_symbols.md R198): 2 extra bits, base 23. -/
def execLen270 (p : SymPart 2) (s : State) : Result := .next (lengthElement 270 23 p s)

/-- `LEN_271` (spec/43_symbols.md R199): 2 extra bits, base 27. -/
def execLen271 (p : SymPart 2) (s : State) : Result := .next (lengthElement 271 27 p s)

/-- `LEN_272` (spec/43_symbols.md R200): 2 extra bits, base 31. -/
def execLen272 (p : SymPart 2) (s : State) : Result := .next (lengthElement 272 31 p s)

/-- `LEN_273` (spec/43_symbols.md R201): 3 extra bits, base 35. -/
def execLen273 (p : SymPart 3) (s : State) : Result := .next (lengthElement 273 35 p s)

/-- `LEN_274` (spec/43_symbols.md R202): 3 extra bits, base 43. -/
def execLen274 (p : SymPart 3) (s : State) : Result := .next (lengthElement 274 43 p s)

/-- `LEN_275` (spec/43_symbols.md R203): 3 extra bits, base 51. -/
def execLen275 (p : SymPart 3) (s : State) : Result := .next (lengthElement 275 51 p s)

/-- `LEN_276` (spec/43_symbols.md R204): 3 extra bits, base 59. -/
def execLen276 (p : SymPart 3) (s : State) : Result := .next (lengthElement 276 59 p s)

/-- `LEN_277` (spec/43_symbols.md R205): 4 extra bits, base 67. -/
def execLen277 (p : SymPart 4) (s : State) : Result := .next (lengthElement 277 67 p s)

/-- `LEN_278` (spec/43_symbols.md R206): 4 extra bits, base 83. -/
def execLen278 (p : SymPart 4) (s : State) : Result := .next (lengthElement 278 83 p s)

/-- `LEN_279` (spec/43_symbols.md R207): 4 extra bits, base 99. -/
def execLen279 (p : SymPart 4) (s : State) : Result := .next (lengthElement 279 99 p s)

/-- `LEN_280` (spec/43_symbols.md R208): 4 extra bits, base 115. -/
def execLen280 (p : SymPart 4) (s : State) : Result := .next (lengthElement 280 115 p s)

/-- `LEN_281` (spec/43_symbols.md R209): 5 extra bits, base 131. -/
def execLen281 (p : SymPart 5) (s : State) : Result := .next (lengthElement 281 131 p s)

/-- `LEN_282` (spec/43_symbols.md R210): 5 extra bits, base 163. -/
def execLen282 (p : SymPart 5) (s : State) : Result := .next (lengthElement 282 163 p s)

/-- `LEN_283` (spec/43_symbols.md R211): 5 extra bits, base 195. -/
def execLen283 (p : SymPart 5) (s : State) : Result := .next (lengthElement 283 195 p s)

/-- `LEN_284` (spec/43_symbols.md R212): 5 extra bits, base 227. -/
def execLen284 (p : SymPart 5) (s : State) : Result := .next (lengthElement 284 227 p s)

/-- `LEN_285` (spec/43_symbols.md R213): 0 extra bits, base 258. -/
def execLen285 (p : SymPart 0) (s : State) : Result := .next (lengthElement 285 258 p s)

/-- Symbol 286, `LL_INVALID` (spec/43_symbols.md R184). -/
def execLlInvalid286 (s : State) : Result := .next (raiseError .badHuffmanTable .invalidCode .litLen s)

/-- Symbol 287, `LL_INVALID` (spec/43_symbols.md R184). -/
def execLlInvalid287 (s : State) : Result := .next (raiseError .badHuffmanTable .invalidCode .litLen s)

end Sys2Proof.Machine
end

