-- ==== Sys2Proof/Machine/Stored.lean ====
section
/-! DEFINITION. Stored blocks (spec/42_block.md R156–R158). -/

namespace Sys2Proof.Machine

/-- `S_NLEN`: the length is confirmed by its complement (spec/42_block.md R157). -/
def checkNlen (nlen : BitVec 16) (s : State) : State :=
  if nlen ≠ ~~~s.core.slen then raiseError .lengthMismatch .storedNlen .none s
  else if s.core.slen = 0 then ({ s with core.srem := s.core.slen } : State).endOfBlock
  else ({ s with core.srem := s.core.slen } : State).goto .sCopy

/-- The register writes of `S_COPY`: `SREM <- SREM - 1`, and the end of the block after the last byte
(spec/42_block.md R158). -/
def State.countStored (s : State) : State :=
  if s.core.srem - 1 = 0 then ({ s with core.srem := s.core.srem - 1 } : State).endOfBlock
  else { s with core.srem := s.core.srem - 1 }

/-- `STORED`: LEN, NLEN, one payload byte (spec/42_block.md R156, R157, R158). -/
def execStored (x : StoredField) (s : State) : Result :=
  match x with
  | .len v => .next (({ s with core.slen := v } : State).goto .sNlen)
  | .nlen v => .next (checkNlen v s)
  | .byte b => windowWrite b s.countStored

end Sys2Proof.Machine
end

