-- ==== Sys2Proof/Machine/Dispatch.lean ====
section
/-! DEFINITION. The dispatch: one arm per instruction, each one call of its meaning. -/

namespace Sys2Proof.Machine

def exec (i : Instr) (s : State) : Host.Outcome State Fault Refusal :=
  match i with
  -- CMD
  | .openStream => Sys2Proof.Machine.execOpenStream s
  | .resume => Sys2Proof.Machine.execResume s
  | .readByte p => Sys2Proof.Machine.execReadByte p s
  | .check => Sys2Proof.Machine.execCheck s
  | .checkTrailer p => Sys2Proof.Machine.execCheckTrailer p s
  | .cmdReserved _ => Sys2Proof.Machine.execCmdReserved s
  -- BLKHDR
  | .blkStored f => Sys2Proof.Machine.execBlkStored f s
  | .blkFixed f => Sys2Proof.Machine.execBlkFixed f s
  | .blkDynamic f => Sys2Proof.Machine.execBlkDynamic f s
  | .blkReserved f => Sys2Proof.Machine.execBlkReserved f s
  -- STORED
  | .stored x => Sys2Proof.Machine.execStored x s
  -- DYNHDR
  | .dynhdr x => Sys2Proof.Machine.execDynhdr x s
  -- CLSYM
  | .clLen v => Sys2Proof.Machine.execClLen v s
  | .clRepPrev p => Sys2Proof.Machine.execClRepPrev p s
  | .clRepZeroS p => Sys2Proof.Machine.execClRepZeroS p s
  | .clRepZeroL p => Sys2Proof.Machine.execClRepZeroL p s
  -- LLSYM
  | .lit c => Sys2Proof.Machine.execLit c s
  | .eob => Sys2Proof.Machine.execEob s
  | .len257 p => Sys2Proof.Machine.execLen257 p s
  | .len258 p => Sys2Proof.Machine.execLen258 p s
  | .len259 p => Sys2Proof.Machine.execLen259 p s
  | .len260 p => Sys2Proof.Machine.execLen260 p s
  | .len261 p => Sys2Proof.Machine.execLen261 p s
  | .len262 p => Sys2Proof.Machine.execLen262 p s
  | .len263 p => Sys2Proof.Machine.execLen263 p s
  | .len264 p => Sys2Proof.Machine.execLen264 p s
  | .len265 p => Sys2Proof.Machine.execLen265 p s
  | .len266 p => Sys2Proof.Machine.execLen266 p s
  | .len267 p => Sys2Proof.Machine.execLen267 p s
  | .len268 p => Sys2Proof.Machine.execLen268 p s
  | .len269 p => Sys2Proof.Machine.execLen269 p s
  | .len270 p => Sys2Proof.Machine.execLen270 p s
  | .len271 p => Sys2Proof.Machine.execLen271 p s
  | .len272 p => Sys2Proof.Machine.execLen272 p s
  | .len273 p => Sys2Proof.Machine.execLen273 p s
  | .len274 p => Sys2Proof.Machine.execLen274 p s
  | .len275 p => Sys2Proof.Machine.execLen275 p s
  | .len276 p => Sys2Proof.Machine.execLen276 p s
  | .len277 p => Sys2Proof.Machine.execLen277 p s
  | .len278 p => Sys2Proof.Machine.execLen278 p s
  | .len279 p => Sys2Proof.Machine.execLen279 p s
  | .len280 p => Sys2Proof.Machine.execLen280 p s
  | .len281 p => Sys2Proof.Machine.execLen281 p s
  | .len282 p => Sys2Proof.Machine.execLen282 p s
  | .len283 p => Sys2Proof.Machine.execLen283 p s
  | .len284 p => Sys2Proof.Machine.execLen284 p s
  | .len285 p => Sys2Proof.Machine.execLen285 p s
  | .llInvalid286 => Sys2Proof.Machine.execLlInvalid286 s
  | .llInvalid287 => Sys2Proof.Machine.execLlInvalid287 s
  -- DSYM
  | .dist0 p => Sys2Proof.Machine.execDist0 p s
  | .dist1 p => Sys2Proof.Machine.execDist1 p s
  | .dist2 p => Sys2Proof.Machine.execDist2 p s
  | .dist3 p => Sys2Proof.Machine.execDist3 p s
  | .dist4 p => Sys2Proof.Machine.execDist4 p s
  | .dist5 p => Sys2Proof.Machine.execDist5 p s
  | .dist6 p => Sys2Proof.Machine.execDist6 p s
  | .dist7 p => Sys2Proof.Machine.execDist7 p s
  | .dist8 p => Sys2Proof.Machine.execDist8 p s
  | .dist9 p => Sys2Proof.Machine.execDist9 p s
  | .dist10 p => Sys2Proof.Machine.execDist10 p s
  | .dist11 p => Sys2Proof.Machine.execDist11 p s
  | .dist12 p => Sys2Proof.Machine.execDist12 p s
  | .dist13 p => Sys2Proof.Machine.execDist13 p s
  | .dist14 p => Sys2Proof.Machine.execDist14 p s
  | .dist15 p => Sys2Proof.Machine.execDist15 p s
  | .dist16 p => Sys2Proof.Machine.execDist16 p s
  | .dist17 p => Sys2Proof.Machine.execDist17 p s
  | .dist18 p => Sys2Proof.Machine.execDist18 p s
  | .dist19 p => Sys2Proof.Machine.execDist19 p s
  | .dist20 p => Sys2Proof.Machine.execDist20 p s
  | .dist21 p => Sys2Proof.Machine.execDist21 p s
  | .dist22 p => Sys2Proof.Machine.execDist22 p s
  | .dist23 p => Sys2Proof.Machine.execDist23 p s
  | .dist24 p => Sys2Proof.Machine.execDist24 p s
  | .dist25 p => Sys2Proof.Machine.execDist25 p s
  | .dist26 p => Sys2Proof.Machine.execDist26 p s
  | .dist27 p => Sys2Proof.Machine.execDist27 p s
  | .dist28 p => Sys2Proof.Machine.execDist28 p s
  | .dist29 p => Sys2Proof.Machine.execDist29 p s
  | .distInvalid30 => Sys2Proof.Machine.execDistInvalid30 s
  | .distInvalid31 => Sys2Proof.Machine.execDistInvalid31 s

end Sys2Proof.Machine
end

