-- ==== Sys2Proof/Machine/Engine.lean ====
section
/-! DEFINITION. The phases that read no element of the opcode table: `H_BFINAL`, `D_BUILD`, `F_END`, `X_DONE`
(spec/42_block.md R150, R171, R173). -/

namespace Sys2Proof.Machine

/-- `H_BFINAL` (spec/42_block.md R150), one bit being held. -/
def readBfinal (s : State) : State :=
  { (s.dropBits 1).goto .hBtype with core.bfinal := s.core.bitbuf.getLsbD 0 }

/-- `F_END` (spec/42_block.md R173, spec/44_window_crc.md R267). -/
def endStream (s : State) : State :=
  if 0 < s.core.w.toNat then flush true (s.alignToByte.goto .xDone)
  else { s.alignToByte.goto .xDone with state := .done }

/-- The action of a phase with no element; a phase that has one does nothing here (`State.ctx` sends it to `exec`). -/
def engineAction (s : State) : State :=
  match s.core.phase with
  | .hBfinal => readBfinal s
  | .dBuild => buildSymbolTables s
  | .fEnd => endStream s
  | .xDone => s
  | .hBtype | .sLen | .sNlen | .sCopy | .dHlit | .dHdist | .dHclen | .dCllen | .dClbuild | .dLensym | .dRepeat
  | .lSym | .lLenx | .lDsym | .lDistx | .lCopy | .cRdbyte | .cTrailer => s

end Sys2Proof.Machine
end

