-- ==== Sys2Proof/WellFormed.lean ====
section
/-! DEFINITION. Which instruction terms stand for words of the hardware: every constructor's operands are bit vectors of
the field's own width, so the one check is on the reserved command words. -/

namespace Sys2Proof

/-- `CMD[31:4] = 0` and `CMD[3:0]` one of the five opcodes: the word is a command (spec/30_encoding.md R91). -/
def isCommandWord (w : Word) : Bool := 1 ≤ w.toNat && w.toNat ≤ 5

/-- A `CMD_RESERVED` holds a word that is none of the five commands (spec/30_encoding.md R91); every other instruction is well formed. -/
def Instr.wf : Instr → Bool
  | .cmdReserved w => !isCommandWord w
  | _ => true

/-- The opcode table's format of each instruction (spec/opcode_table.json, `format`). -/
def Instr.format : Instr → Format
  | .openStream | .resume | .readByte _ | .check | .checkTrailer _ | .cmdReserved _ => .cmd
  | .blkStored _ | .blkFixed _ | .blkDynamic _ | .blkReserved _ => .blkhdr
  | .stored _ => .stored
  | .dynhdr _ => .dynhdr
  | .clLen _ | .clRepPrev _ | .clRepZeroS _ | .clRepZeroL _ => .clsym
  | .lit _ | .eob => .llsym
  | .len257 _ | .len258 _ | .len259 _ | .len260 _ | .len261 _ | .len262 _ | .len263 _ | .len264 _ | .len265 _
  | .len266 _ | .len267 _ | .len268 _ | .len269 _ | .len270 _ | .len271 _ | .len272 _ | .len273 _ | .len274 _
  | .len275 _ | .len276 _ | .len277 _ | .len278 _ | .len279 _ | .len280 _ | .len281 _ | .len282 _ | .len283 _
  | .len284 _ | .len285 _ | .llInvalid286 | .llInvalid287 => .llsym
  | .dist0 _ | .dist1 _ | .dist2 _ | .dist3 _ | .dist4 _ | .dist5 _ | .dist6 _ | .dist7 _ | .dist8 _ | .dist9 _
  | .dist10 _ | .dist11 _ | .dist12 _ | .dist13 _ | .dist14 _ | .dist15 _ | .dist16 _ | .dist17 _ | .dist18 _
  | .dist19 _ | .dist20 _ | .dist21 _ | .dist22 _ | .dist23 _ | .dist24 _ | .dist25 _ | .dist26 _ | .dist27 _
  | .dist28 _ | .dist29 _ | .distInvalid30 | .distInvalid31 => .dsym

end Sys2Proof
end

