-- ==== Sys2Proof/Decode.lean ====
section
/-! DEFINITION. Decoding: from a list of bits in read order, in the context the machine is in, to an instruction or a
named refusal; then the encoder, from the same tables of spec/30_encoding.md. Total on any bits. -/

namespace Sys2Proof

open Sys2Proof.Machine

/-- What the next bits are read as: the formats of spec/30_encoding.md R80 and R91, one context for each field an action
reads. The stream has no opcode of its own; the phase and the tables select how it is coded (R89). -/
inductive Ctx where
  | command
  | header
  | storedLen | storedNlen | storedByte
  | hlit | hdist | hclen | clLen | clBuild
  | symbol (a : Alphabet) (t : Table) (hcode : BitVec 15) (hcnt : BitVec 4)
  | repeatExtra (rsym : Nat)
  | lengthExtra (msym : Nat)
  | distExtra (dsym : Nat)
  | copy (dsym : Nat)
  | readByte
  | trailerByte
deriving DecidableEq, Repr

/-- The format of the element a context reads (spec/30_encoding.md R80, R91). -/
def Ctx.format : Ctx → Format
  | .command | .readByte | .trailerByte => .cmd
  | .header => .blkhdr
  | .storedLen | .storedNlen | .storedByte => .stored
  | .hlit | .hdist | .hclen | .clLen | .clBuild => .dynhdr
  | .symbol .cl _ _ _ | .repeatExtra _ => .clsym
  | .symbol .ll _ _ _ | .lengthExtra _ => .llsym
  | .symbol .dist _ _ _ | .distExtra _ | .copy _ => .dsym

/-- Why bits give no instruction. -/
inductive Reject where
  /-- at least this many more bits are required (spec/40_bitreader.md R100) -/
  | needBits (n : Nat)
  /-- a decode from an EMPTY table (spec/41_huffman.md R132) -/
  | emptyTable (t : ErrTable)
  /-- `maxlen` bits that match no code (spec/41_huffman.md R133) -/
  | invalidCode (t : ErrTable)
  /-- a continuation register or a symbol outside its alphabet: no state of a run has one -/
  | outsideAlphabet
deriving DecidableEq, Repr

/-- The two instructions of each length symbol 257 to 285: its code, and its extra field (spec/30_encoding.md R86). -/
def lengthInstrs : List (Instr × (Nat → Instr)) :=
  [(Instr.len257 .code, fun v => Instr.len257 (.extra (BitVec.ofNat 0 v))),
   (Instr.len258 .code, fun v => Instr.len258 (.extra (BitVec.ofNat 0 v))),
   (Instr.len259 .code, fun v => Instr.len259 (.extra (BitVec.ofNat 0 v))),
   (Instr.len260 .code, fun v => Instr.len260 (.extra (BitVec.ofNat 0 v))),
   (Instr.len261 .code, fun v => Instr.len261 (.extra (BitVec.ofNat 0 v))),
   (Instr.len262 .code, fun v => Instr.len262 (.extra (BitVec.ofNat 0 v))),
   (Instr.len263 .code, fun v => Instr.len263 (.extra (BitVec.ofNat 0 v))),
   (Instr.len264 .code, fun v => Instr.len264 (.extra (BitVec.ofNat 0 v))),
   (Instr.len265 .code, fun v => Instr.len265 (.extra (BitVec.ofNat 1 v))),
   (Instr.len266 .code, fun v => Instr.len266 (.extra (BitVec.ofNat 1 v))),
   (Instr.len267 .code, fun v => Instr.len267 (.extra (BitVec.ofNat 1 v))),
   (Instr.len268 .code, fun v => Instr.len268 (.extra (BitVec.ofNat 1 v))),
   (Instr.len269 .code, fun v => Instr.len269 (.extra (BitVec.ofNat 2 v))),
   (Instr.len270 .code, fun v => Instr.len270 (.extra (BitVec.ofNat 2 v))),
   (Instr.len271 .code, fun v => Instr.len271 (.extra (BitVec.ofNat 2 v))),
   (Instr.len272 .code, fun v => Instr.len272 (.extra (BitVec.ofNat 2 v))),
   (Instr.len273 .code, fun v => Instr.len273 (.extra (BitVec.ofNat 3 v))),
   (Instr.len274 .code, fun v => Instr.len274 (.extra (BitVec.ofNat 3 v))),
   (Instr.len275 .code, fun v => Instr.len275 (.extra (BitVec.ofNat 3 v))),
   (Instr.len276 .code, fun v => Instr.len276 (.extra (BitVec.ofNat 3 v))),
   (Instr.len277 .code, fun v => Instr.len277 (.extra (BitVec.ofNat 4 v))),
   (Instr.len278 .code, fun v => Instr.len278 (.extra (BitVec.ofNat 4 v))),
   (Instr.len279 .code, fun v => Instr.len279 (.extra (BitVec.ofNat 4 v))),
   (Instr.len280 .code, fun v => Instr.len280 (.extra (BitVec.ofNat 4 v))),
   (Instr.len281 .code, fun v => Instr.len281 (.extra (BitVec.ofNat 5 v))),
   (Instr.len282 .code, fun v => Instr.len282 (.extra (BitVec.ofNat 5 v))),
   (Instr.len283 .code, fun v => Instr.len283 (.extra (BitVec.ofNat 5 v))),
   (Instr.len284 .code, fun v => Instr.len284 (.extra (BitVec.ofNat 5 v))),
   (Instr.len285 .code, fun v => Instr.len285 (.extra (BitVec.ofNat 0 v)))]

/-- The three instructions of each distance symbol 0 to 29: its code, its extra field, its copy
(spec/30_encoding.md R87). -/
def distanceInstrs : List (Instr × (Nat → Instr) × Instr) :=
  [(Instr.dist0 .code, fun v => Instr.dist0 (.extra (BitVec.ofNat 0 v)), Instr.dist0 .copy),
   (Instr.dist1 .code, fun v => Instr.dist1 (.extra (BitVec.ofNat 0 v)), Instr.dist1 .copy),
   (Instr.dist2 .code, fun v => Instr.dist2 (.extra (BitVec.ofNat 0 v)), Instr.dist2 .copy),
   (Instr.dist3 .code, fun v => Instr.dist3 (.extra (BitVec.ofNat 0 v)), Instr.dist3 .copy),
   (Instr.dist4 .code, fun v => Instr.dist4 (.extra (BitVec.ofNat 1 v)), Instr.dist4 .copy),
   (Instr.dist5 .code, fun v => Instr.dist5 (.extra (BitVec.ofNat 1 v)), Instr.dist5 .copy),
   (Instr.dist6 .code, fun v => Instr.dist6 (.extra (BitVec.ofNat 2 v)), Instr.dist6 .copy),
   (Instr.dist7 .code, fun v => Instr.dist7 (.extra (BitVec.ofNat 2 v)), Instr.dist7 .copy),
   (Instr.dist8 .code, fun v => Instr.dist8 (.extra (BitVec.ofNat 3 v)), Instr.dist8 .copy),
   (Instr.dist9 .code, fun v => Instr.dist9 (.extra (BitVec.ofNat 3 v)), Instr.dist9 .copy),
   (Instr.dist10 .code, fun v => Instr.dist10 (.extra (BitVec.ofNat 4 v)), Instr.dist10 .copy),
   (Instr.dist11 .code, fun v => Instr.dist11 (.extra (BitVec.ofNat 4 v)), Instr.dist11 .copy),
   (Instr.dist12 .code, fun v => Instr.dist12 (.extra (BitVec.ofNat 5 v)), Instr.dist12 .copy),
   (Instr.dist13 .code, fun v => Instr.dist13 (.extra (BitVec.ofNat 5 v)), Instr.dist13 .copy),
   (Instr.dist14 .code, fun v => Instr.dist14 (.extra (BitVec.ofNat 6 v)), Instr.dist14 .copy),
   (Instr.dist15 .code, fun v => Instr.dist15 (.extra (BitVec.ofNat 6 v)), Instr.dist15 .copy),
   (Instr.dist16 .code, fun v => Instr.dist16 (.extra (BitVec.ofNat 7 v)), Instr.dist16 .copy),
   (Instr.dist17 .code, fun v => Instr.dist17 (.extra (BitVec.ofNat 7 v)), Instr.dist17 .copy),
   (Instr.dist18 .code, fun v => Instr.dist18 (.extra (BitVec.ofNat 8 v)), Instr.dist18 .copy),
   (Instr.dist19 .code, fun v => Instr.dist19 (.extra (BitVec.ofNat 8 v)), Instr.dist19 .copy),
   (Instr.dist20 .code, fun v => Instr.dist20 (.extra (BitVec.ofNat 9 v)), Instr.dist20 .copy),
   (Instr.dist21 .code, fun v => Instr.dist21 (.extra (BitVec.ofNat 9 v)), Instr.dist21 .copy),
   (Instr.dist22 .code, fun v => Instr.dist22 (.extra (BitVec.ofNat 10 v)), Instr.dist22 .copy),
   (Instr.dist23 .code, fun v => Instr.dist23 (.extra (BitVec.ofNat 10 v)), Instr.dist23 .copy),
   (Instr.dist24 .code, fun v => Instr.dist24 (.extra (BitVec.ofNat 11 v)), Instr.dist24 .copy),
   (Instr.dist25 .code, fun v => Instr.dist25 (.extra (BitVec.ofNat 11 v)), Instr.dist25 .copy),
   (Instr.dist26 .code, fun v => Instr.dist26 (.extra (BitVec.ofNat 12 v)), Instr.dist26 .copy),
   (Instr.dist27 .code, fun v => Instr.dist27 (.extra (BitVec.ofNat 12 v)), Instr.dist27 .copy),
   (Instr.dist28 .code, fun v => Instr.dist28 (.extra (BitVec.ofNat 13 v)), Instr.dist28 .copy),
   (Instr.dist29 .code, fun v => Instr.dist29 (.extra (BitVec.ofNat 13 v)), Instr.dist29 .copy)]

/-- The instruction a decoded symbol is, by the symbol's entry (spec/41_huffman.md R126, spec/30_encoding.md R85–R87). -/
def symbolInstr (a : Alphabet) (sym : Nat) : Option Instr :=
  match entryOf a sym with
  | some (.value v) =>
    if v < 16 then some (.clLen (BitVec.ofNat 4 v))
    else if v = 16 then some (.clRepPrev .code)
    else if v = 17 then some (.clRepZeroS .code)
    else some (.clRepZeroL .code)
  | some (.literal b) => some (.lit b)
  | some .endOfBlock => some .eob
  | some (.length _ _) => (lengthInstrs[sym - 257]?).map Prod.fst
  | some (.distance _ _) => (distanceInstrs[sym]?).map Prod.fst
  | some .invalid =>
    if sym = 286 then some .llInvalid286
    else if sym = 287 then some .llInvalid287
    else if sym = 30 then some .distInvalid30
    else some .distInvalid31
  | none => none

/-- The command a 32-bit word is (spec/30_encoding.md R91). -/
def decodeCommand (w : Word) : Instr :=
  if w = 1 then .openStream
  else if w = 2 then .resume
  else if w = 3 then .readByte .command
  else if w = 4 then .check
  else if w = 5 then .checkTrailer .command
  else .cmdReserved w

/-- The block header a 3-bit integer is: `h[0] = BFINAL`, `h[2:1] = BTYPE` (spec/30_encoding.md R81). -/
def decodeHeader (h : Nat) : Instr :=
  if h / 2 = 0 then .blkStored (h.testBit 0)
  else if h / 2 = 1 then .blkFixed (h.testBit 0)
  else if h / 2 = 2 then .blkDynamic (h.testBit 0)
  else .blkReserved (h.testBit 0)

/-- An `n`-bit integer field, first bit read as bit 0 (spec/40_bitreader.md R101), and the bits it takes. -/
def decodeField (n : Nat) (mk : Nat → Instr) (bits : List Bool) : Except Reject (Instr × Nat) :=
  if bits.length < n then .error (.needBits (n - bits.length)) else .ok (mk (natOfBits (bits.take n)), n)

/-- The symbol the bits code, `h` and `n` being the code bits read before them, and the bits it takes
(spec/41_huffman.md R131, R133). -/
def decodeCode (t : Table) (a : Alphabet) : BitVec 15 → BitVec 4 → List Bool → Except Reject (Nat × Nat)
  | _, _, [] => .error (.needBits 1)
  | h, n, b :: bits =>
    match t.lookup (n + 1).toNat (pushBit h b).toNat with
    | some sym => .ok (sym, 1)
    | none =>
      if (n + 1).toNat = t.maxlen then .error (.invalidCode a.errTable)
      else
        match decodeCode t a (pushBit h b) (n + 1) bits with
        | .ok (sym, k) => .ok (sym, k + 1)
        | .error e => .error e

/-- The instruction a symbol's code decodes to (spec/41_huffman.md R131, R132). -/
def decodeSymbol (a : Alphabet) (t : Table) (h : BitVec 15) (n : BitVec 4) (bits : List Bool) :
    Except Reject (Instr × Nat) :=
  if t.status = .empty then .error (.emptyTable a.errTable)
  else
    match decodeCode t a h n bits with
    | .error e => .error e
    | .ok (sym, k) =>
      match symbolInstr a sym with
      | some i => .ok (i, k)
      | none => .error .outsideAlphabet

/-- The decoder: the instruction the bits are in context `c`, and how many of them it takes. -/
def decode (c : Ctx) (bits : List Bool) : Except Reject (Instr × Nat) :=
  match c with
  | .command => decodeField 32 (fun v => decodeCommand (BitVec.ofNat 32 v)) bits
  | .header => decodeField 3 decodeHeader bits
  | .storedLen => decodeField 16 (fun v => .stored (.len (BitVec.ofNat 16 v))) bits
  | .storedNlen => decodeField 16 (fun v => .stored (.nlen (BitVec.ofNat 16 v))) bits
  | .storedByte => decodeField 8 (fun v => .stored (.byte (BitVec.ofNat 8 v))) bits
  | .hlit => decodeField 5 (fun v => .dynhdr (.hlit (BitVec.ofNat 5 v))) bits
  | .hdist => decodeField 5 (fun v => .dynhdr (.hdist (BitVec.ofNat 5 v))) bits
  | .hclen => decodeField 4 (fun v => .dynhdr (.hclen (BitVec.ofNat 4 v))) bits
  | .clLen => decodeField 3 (fun v => .dynhdr (.clLen (BitVec.ofNat 3 v))) bits
  | .clBuild => .ok (.dynhdr .build, 0)
  | .symbol a t h n => decodeSymbol a t h n bits
  | .repeatExtra r =>
    if r = 16 then decodeField 2 (fun v => .clRepPrev (.extra (BitVec.ofNat 2 v))) bits
    else if r = 17 then decodeField 3 (fun v => .clRepZeroS (.extra (BitVec.ofNat 3 v))) bits
    else if r = 18 then decodeField 7 (fun v => .clRepZeroL (.extra (BitVec.ofNat 7 v))) bits
    else .error .outsideAlphabet
  | .lengthExtra m =>
    match lengthRow m, lengthInstrs[m - 257]? with
    | some (x, _), some (_, mk) => decodeField x mk bits
    | _, _ => .error .outsideAlphabet
  | .distExtra d =>
    match distanceRow d, distanceInstrs[d]? with
    | some (x, _), some (_, mk, _) => decodeField x mk bits
    | _, _ => .error .outsideAlphabet
  | .copy d =>
    match distanceInstrs[d]? with
    | some (_, _, i) => .ok (i, 0)
    | none => .error .outsideAlphabet
  | .readByte => decodeField 8 (fun v => .readByte (.byte (BitVec.ofNat 8 v))) bits
  | .trailerByte => decodeField 8 (fun v => .checkTrailer (.byte (BitVec.ofNat 8 v))) bits

/-- How many bits of `BITBUF` the action of a context requires (spec/40_bitreader.md R100): a header's first bit has
been read by `H_BFINAL`, a symbol is read one code bit a step, an EMPTY table reads none (spec/41_huffman.md R131). -/
def Ctx.width : Ctx → Nat
  | .command => 32
  | .header => 2
  | .storedLen | .storedNlen => 16
  | .storedByte | .readByte | .trailerByte => 8
  | .hlit | .hdist => 5
  | .hclen => 4
  | .clLen => 3
  | .clBuild | .copy _ => 0
  | .symbol _ t _ _ => if t.status = .empty then 0 else 1
  | .repeatExtra r => repeatWidth r
  | .lengthExtra m => ((lengthRow m).map Prod.fst).getD 0
  | .distExtra d => ((distanceRow d).map Prod.fst).getD 0

/-- `LT`: the current literal/length table (spec/43_symbols.md, opening; spec/10_state.md R38). -/
def State.litTable (s : State) : Table := match s.core.curLit with | .fixed => fixedLit | .dyn => s.core.tblLit

/-- `DT`: the current distance table. -/
def State.distTable (s : State) : Table := match s.core.curDist with | .fixed => fixedDist | .dyn => s.core.tblDist

/-- The context the phase reads its element in; `none` for the phases with no element: `H_BFINAL`, `D_BUILD`, `F_END`,
`X_DONE` (spec/10_state.md R25). -/
def State.ctx (s : State) : Option Ctx :=
  match s.core.phase with
  | .hBfinal => none
  | .hBtype => some .header
  | .sLen => some .storedLen
  | .sNlen => some .storedNlen
  | .sCopy => some .storedByte
  | .dHlit => some .hlit
  | .dHdist => some .hdist
  | .dHclen => some .hclen
  | .dCllen => some .clLen
  | .dClbuild => some .clBuild
  | .dLensym => some (.symbol .cl s.core.tblCl s.core.hcode s.core.hcnt)
  | .dRepeat => some (.repeatExtra s.core.rsym.toNat)
  | .dBuild => none
  | .lSym => some (.symbol .ll (State.litTable s) s.core.hcode s.core.hcnt)
  | .lLenx => some (.lengthExtra s.core.msym.toNat)
  | .lDsym => some (.symbol .dist (State.distTable s) s.core.hcode s.core.hcnt)
  | .lDistx => some (.distExtra s.core.dsym.toNat)
  | .lCopy => some (.copy s.core.dsym.toNat)
  | .fEnd => none
  | .cRdbyte => some .readByte
  | .cTrailer => some .trailerByte
  | .xDone => none

/-! ## The encoder -/

/-- The word of a command (spec/30_encoding.md R91). -/
def Instr.commandWord : Instr → Option Word
  | .openStream => some 1
  | .resume => some 2
  | .readByte .command => some 3
  | .check => some 4
  | .checkTrailer .command => some 5
  | .cmdReserved w => some w
  | _ => none

/-- `BFINAL` and `BTYPE` of a block header (spec/30_encoding.md R81). -/
def Instr.headerFields : Instr → Option (Bool × Nat)
  | .blkStored f => some (f, 0)
  | .blkFixed f => some (f, 1)
  | .blkDynamic f => some (f, 2)
  | .blkReserved f => some (f, 3)
  | _ => none

/-- The alphabet and the symbol of an instruction that is a symbol's code (spec/30_encoding.md R85–R87). -/
def Instr.symbol : Instr → Option (Alphabet × Nat)
  | .clLen v => some (.cl, v.toNat)
  | .clRepPrev .code => some (.cl, 16)
  | .clRepZeroS .code => some (.cl, 17)
  | .clRepZeroL .code => some (.cl, 18)
  | .lit c => some (.ll, c.toNat)
  | .eob => some (.ll, 256)
  | .len257 .code => some (.ll, 257)
  | .len258 .code => some (.ll, 258)
  | .len259 .code => some (.ll, 259)
  | .len260 .code => some (.ll, 260)
  | .len261 .code => some (.ll, 261)
  | .len262 .code => some (.ll, 262)
  | .len263 .code => some (.ll, 263)
  | .len264 .code => some (.ll, 264)
  | .len265 .code => some (.ll, 265)
  | .len266 .code => some (.ll, 266)
  | .len267 .code => some (.ll, 267)
  | .len268 .code => some (.ll, 268)
  | .len269 .code => some (.ll, 269)
  | .len270 .code => some (.ll, 270)
  | .len271 .code => some (.ll, 271)
  | .len272 .code => some (.ll, 272)
  | .len273 .code => some (.ll, 273)
  | .len274 .code => some (.ll, 274)
  | .len275 .code => some (.ll, 275)
  | .len276 .code => some (.ll, 276)
  | .len277 .code => some (.ll, 277)
  | .len278 .code => some (.ll, 278)
  | .len279 .code => some (.ll, 279)
  | .len280 .code => some (.ll, 280)
  | .len281 .code => some (.ll, 281)
  | .len282 .code => some (.ll, 282)
  | .len283 .code => some (.ll, 283)
  | .len284 .code => some (.ll, 284)
  | .len285 .code => some (.ll, 285)
  | .llInvalid286 => some (.ll, 286)
  | .llInvalid287 => some (.ll, 287)
  | .dist0 .code => some (.dist, 0)
  | .dist1 .code => some (.dist, 1)
  | .dist2 .code => some (.dist, 2)
  | .dist3 .code => some (.dist, 3)
  | .dist4 .code => some (.dist, 4)
  | .dist5 .code => some (.dist, 5)
  | .dist6 .code => some (.dist, 6)
  | .dist7 .code => some (.dist, 7)
  | .dist8 .code => some (.dist, 8)
  | .dist9 .code => some (.dist, 9)
  | .dist10 .code => some (.dist, 10)
  | .dist11 .code => some (.dist, 11)
  | .dist12 .code => some (.dist, 12)
  | .dist13 .code => some (.dist, 13)
  | .dist14 .code => some (.dist, 14)
  | .dist15 .code => some (.dist, 15)
  | .dist16 .code => some (.dist, 16)
  | .dist17 .code => some (.dist, 17)
  | .dist18 .code => some (.dist, 18)
  | .dist19 .code => some (.dist, 19)
  | .dist20 .code => some (.dist, 20)
  | .dist21 .code => some (.dist, 21)
  | .dist22 .code => some (.dist, 22)
  | .dist23 .code => some (.dist, 23)
  | .dist24 .code => some (.dist, 24)
  | .dist25 .code => some (.dist, 25)
  | .dist26 .code => some (.dist, 26)
  | .dist27 .code => some (.dist, 27)
  | .dist28 .code => some (.dist, 28)
  | .dist29 .code => some (.dist, 29)
  | .distInvalid30 => some (.dist, 30)
  | .distInvalid31 => some (.dist, 31)
  | _ => none

/-- The context an integer field stands in, its width and its value, for an instruction that is one (spec/30_encoding.md
R82, R83, R88); an action that reads no bits is a field of width 0. -/
def Instr.field : Instr → Option (Ctx × Nat × Nat)
  | .stored (.len v) => some (.storedLen, 16, v.toNat)
  | .stored (.nlen v) => some (.storedNlen, 16, v.toNat)
  | .stored (.byte b) => some (.storedByte, 8, b.toNat)
  | .dynhdr (.hlit v) => some (.hlit, 5, v.toNat)
  | .dynhdr (.hdist v) => some (.hdist, 5, v.toNat)
  | .dynhdr (.hclen v) => some (.hclen, 4, v.toNat)
  | .dynhdr (.clLen v) => some (.clLen, 3, v.toNat)
  | .dynhdr .build => some (.clBuild, 0, 0)
  | .clRepPrev (.extra e) => some (.repeatExtra 16, 2, e.toNat)
  | .clRepZeroS (.extra e) => some (.repeatExtra 17, 3, e.toNat)
  | .clRepZeroL (.extra e) => some (.repeatExtra 18, 7, e.toNat)
  | .readByte (.byte b) => some (.readByte, 8, b.toNat)
  | .checkTrailer (.byte b) => some (.trailerByte, 8, b.toNat)
  | .len257 (.extra e) => some (.lengthExtra 257, 0, e.toNat)
  | .len258 (.extra e) => some (.lengthExtra 258, 0, e.toNat)
  | .len259 (.extra e) => some (.lengthExtra 259, 0, e.toNat)
  | .len260 (.extra e) => some (.lengthExtra 260, 0, e.toNat)
  | .len261 (.extra e) => some (.lengthExtra 261, 0, e.toNat)
  | .len262 (.extra e) => some (.lengthExtra 262, 0, e.toNat)
  | .len263 (.extra e) => some (.lengthExtra 263, 0, e.toNat)
  | .len264 (.extra e) => some (.lengthExtra 264, 0, e.toNat)
  | .len265 (.extra e) => some (.lengthExtra 265, 1, e.toNat)
  | .len266 (.extra e) => some (.lengthExtra 266, 1, e.toNat)
  | .len267 (.extra e) => some (.lengthExtra 267, 1, e.toNat)
  | .len268 (.extra e) => some (.lengthExtra 268, 1, e.toNat)
  | .len269 (.extra e) => some (.lengthExtra 269, 2, e.toNat)
  | .len270 (.extra e) => some (.lengthExtra 270, 2, e.toNat)
  | .len271 (.extra e) => some (.lengthExtra 271, 2, e.toNat)
  | .len272 (.extra e) => some (.lengthExtra 272, 2, e.toNat)
  | .len273 (.extra e) => some (.lengthExtra 273, 3, e.toNat)
  | .len274 (.extra e) => some (.lengthExtra 274, 3, e.toNat)
  | .len275 (.extra e) => some (.lengthExtra 275, 3, e.toNat)
  | .len276 (.extra e) => some (.lengthExtra 276, 3, e.toNat)
  | .len277 (.extra e) => some (.lengthExtra 277, 4, e.toNat)
  | .len278 (.extra e) => some (.lengthExtra 278, 4, e.toNat)
  | .len279 (.extra e) => some (.lengthExtra 279, 4, e.toNat)
  | .len280 (.extra e) => some (.lengthExtra 280, 4, e.toNat)
  | .len281 (.extra e) => some (.lengthExtra 281, 5, e.toNat)
  | .len282 (.extra e) => some (.lengthExtra 282, 5, e.toNat)
  | .len283 (.extra e) => some (.lengthExtra 283, 5, e.toNat)
  | .len284 (.extra e) => some (.lengthExtra 284, 5, e.toNat)
  | .len285 (.extra e) => some (.lengthExtra 285, 0, e.toNat)
  | .dist0 (.extra e) => some (.distExtra 0, 0, e.toNat)
  | .dist0 .copy => some (.copy 0, 0, 0)
  | .dist1 (.extra e) => some (.distExtra 1, 0, e.toNat)
  | .dist1 .copy => some (.copy 1, 0, 0)
  | .dist2 (.extra e) => some (.distExtra 2, 0, e.toNat)
  | .dist2 .copy => some (.copy 2, 0, 0)
  | .dist3 (.extra e) => some (.distExtra 3, 0, e.toNat)
  | .dist3 .copy => some (.copy 3, 0, 0)
  | .dist4 (.extra e) => some (.distExtra 4, 1, e.toNat)
  | .dist4 .copy => some (.copy 4, 0, 0)
  | .dist5 (.extra e) => some (.distExtra 5, 1, e.toNat)
  | .dist5 .copy => some (.copy 5, 0, 0)
  | .dist6 (.extra e) => some (.distExtra 6, 2, e.toNat)
  | .dist6 .copy => some (.copy 6, 0, 0)
  | .dist7 (.extra e) => some (.distExtra 7, 2, e.toNat)
  | .dist7 .copy => some (.copy 7, 0, 0)
  | .dist8 (.extra e) => some (.distExtra 8, 3, e.toNat)
  | .dist8 .copy => some (.copy 8, 0, 0)
  | .dist9 (.extra e) => some (.distExtra 9, 3, e.toNat)
  | .dist9 .copy => some (.copy 9, 0, 0)
  | .dist10 (.extra e) => some (.distExtra 10, 4, e.toNat)
  | .dist10 .copy => some (.copy 10, 0, 0)
  | .dist11 (.extra e) => some (.distExtra 11, 4, e.toNat)
  | .dist11 .copy => some (.copy 11, 0, 0)
  | .dist12 (.extra e) => some (.distExtra 12, 5, e.toNat)
  | .dist12 .copy => some (.copy 12, 0, 0)
  | .dist13 (.extra e) => some (.distExtra 13, 5, e.toNat)
  | .dist13 .copy => some (.copy 13, 0, 0)
  | .dist14 (.extra e) => some (.distExtra 14, 6, e.toNat)
  | .dist14 .copy => some (.copy 14, 0, 0)
  | .dist15 (.extra e) => some (.distExtra 15, 6, e.toNat)
  | .dist15 .copy => some (.copy 15, 0, 0)
  | .dist16 (.extra e) => some (.distExtra 16, 7, e.toNat)
  | .dist16 .copy => some (.copy 16, 0, 0)
  | .dist17 (.extra e) => some (.distExtra 17, 7, e.toNat)
  | .dist17 .copy => some (.copy 17, 0, 0)
  | .dist18 (.extra e) => some (.distExtra 18, 8, e.toNat)
  | .dist18 .copy => some (.copy 18, 0, 0)
  | .dist19 (.extra e) => some (.distExtra 19, 8, e.toNat)
  | .dist19 .copy => some (.copy 19, 0, 0)
  | .dist20 (.extra e) => some (.distExtra 20, 9, e.toNat)
  | .dist20 .copy => some (.copy 20, 0, 0)
  | .dist21 (.extra e) => some (.distExtra 21, 9, e.toNat)
  | .dist21 .copy => some (.copy 21, 0, 0)
  | .dist22 (.extra e) => some (.distExtra 22, 10, e.toNat)
  | .dist22 .copy => some (.copy 22, 0, 0)
  | .dist23 (.extra e) => some (.distExtra 23, 10, e.toNat)
  | .dist23 .copy => some (.copy 23, 0, 0)
  | .dist24 (.extra e) => some (.distExtra 24, 11, e.toNat)
  | .dist24 .copy => some (.copy 24, 0, 0)
  | .dist25 (.extra e) => some (.distExtra 25, 11, e.toNat)
  | .dist25 .copy => some (.copy 25, 0, 0)
  | .dist26 (.extra e) => some (.distExtra 26, 12, e.toNat)
  | .dist26 .copy => some (.copy 26, 0, 0)
  | .dist27 (.extra e) => some (.distExtra 27, 12, e.toNat)
  | .dist27 .copy => some (.copy 27, 0, 0)
  | .dist28 (.extra e) => some (.distExtra 28, 13, e.toNat)
  | .dist28 .copy => some (.copy 28, 0, 0)
  | .dist29 (.extra e) => some (.distExtra 29, 13, e.toNat)
  | .dist29 .copy => some (.copy 29, 0, 0)
  | _ => none

/-- Instruction `i` is one that stands in context `c`. -/
def Instr.fits (c : Ctx) (i : Instr) : Bool :=
  match c with
  | .command => i.commandWord.isSome && i.wf
  | .header => i.headerFields.isSome
  | .symbol a t _ _ =>
    match i.symbol with
    | some (a', sym) => a' == a && (t.codeOf sym).isSome
    | none => false
  | _ =>
    match i.field with
    | some (c', _, _) => c' == c
    | none => false

/-- The encoder: the bits of `i` in read order, in context `c`; a symbol's code is the one table `t` assigns, whole. -/
def encode (c : Ctx) (i : Instr) : List Bool :=
  match c with
  | .command => match i.commandWord with | some w => bitsOf 32 w.toNat | none => []
  | .header => match i.headerFields with | some (f, k) => f :: bitsOf 2 k | none => []
  | .symbol _ t _ _ =>
    match i.symbol with
    | some (_, sym) => match t.codeOf sym with | some e => codeBits e.len e.code | none => []
    | none => []
  | _ => match i.field with | some (_, n, v) => bitsOf n v | none => []

/-! ## Words numbered as spec/opcode_table.json numbers them -/

/-- The shape of a row whose pattern is a fixed code and extra bits: pattern width, extra bits, code, and the alphabet and
table it is read with. The pattern's first character is the first bit read, so it is the number's most significant bit. -/
structure RowShape where
  width : Nat
  extra : Nat
  code : Nat
  alphabet : Alphabet
deriving DecidableEq, Repr

/-- The row of literal/length symbol `sym` in the fixed code (spec/30_encoding.md R86). -/
def litRowShape (sym : Nat) : RowShape :=
  let x := ((lengthRow sym).map Prod.fst).getD 0
  if sym < 144 then { width := 8, extra := 0, code := 0x30 + sym, alphabet := .ll }
  else if sym < 256 then { width := 9, extra := 0, code := 0x190 + (sym - 144), alphabet := .ll }
  else if sym < 280 then { width := 7 + x, extra := x, code := sym - 256, alphabet := .ll }
  else { width := 8 + x, extra := x, code := 0xC0 + (sym - 280), alphabet := .ll }

/-- The row of distance symbol `sym` in the fixed code (spec/30_encoding.md R87). -/
def distRowShape (sym : Nat) : RowShape :=
  let x := ((distanceRow sym).map Prod.fst).getD 0
  { width := 5 + x, extra := x, code := sym, alphabet := .dist }

/-- The rows, those the table gives fixed bits for first: a number alone does not name its format, and the first row it
fits is taken (notes/assumptions/17.md). -/
def rowShapes : List RowShape :=
  [265, 266, 267, 268, 285, 286, 287].map litRowShape ++ [8, 9, 24, 25].map distRowShape
    ++ (List.range' 256 32).map litRowShape ++ (List.range 32).map distRowShape ++ (List.range 256).map litRowShape

/-- The number `w` of `nbits` bits fits the row. -/
def RowShape.fitsWord (r : RowShape) (nbits w : Nat) : Bool :=
  (nbits == r.width || nbits == 8 * ((r.width + 7) / 8)) && w / 2 ^ r.extra == r.code

/-- The context and the bits, in read order, of a number of the opcode table: a command word, a header's 3-bit integer,
or a fixed-code pattern. -/
def tableBits (nbits w : Nat) : Option (Ctx × List Bool) :=
  if nbits = 32 then some (.command, bitsOf 32 w)
  else if (nbits = 3 ∨ nbits = 8) ∧ w < 8 then some (.header, bitsOf 3 w)
  else
    match rowShapes.find? (fun r => r.fitsWord nbits w) with
    | some r =>
      some (.symbol r.alphabet (if r.alphabet = .dist then fixedDist else fixedLit) 0 0, codeBits r.width w)
    | none => none

/-- The instruction the decoder reads from an instruction whose bits are `w`, numbered as the opcode table numbers them. -/
def decodeTableWord (nbits w : Nat) : Option Instr :=
  match tableBits nbits w with
  | none => none
  | some (c, bits) =>
    match decode c bits with
    | .ok (i, _) => some i
    | .error _ => none

end Sys2Proof
end

