-- ==== Sys2Proof/Machine/Fetch.lean ====
section
/-! DEFINITION. What a core step does before an action: the bits the action requires, the fetch, the hold, the errors of
an input port with nothing left (spec/40_bitreader.md R100–R105), and the state an action starts from. -/

namespace Sys2Proof.Machine

/-- The bits the phase's action requires (spec/40_bitreader.md R100). -/
def State.needed (s : State) : Nat :=
  match State.ctx s with
  | some c => c.width
  | none => if s.core.phase = .hBfinal then 1 else 0

/-- `C_RDBYTE` aligns before it reads (spec/45_host.md R285). `C_TRAILER` does not: spec/20_memory.md R65 names
CHECK_TRAILER among the places that ask for an alignment, the pseudocode of spec/45_host.md R287 makes none, and the model
follows R287. Both are the model's choices (notes/assumptions/16.md). -/
def State.prepared (s : State) : State := if s.core.phase = .cRdbyte then s.alignToByte else s

/-- One fetch step: the head of `INQ` goes above the held bits (spec/40_bitreader.md R100). -/
def fetchByte (b : Byte) (rest : List Byte) (s : State) : State :=
  { s with
    inq := rest, inWait := false
    core.bitbuf := s.core.bitbuf ||| (b.setWidth 64 <<< s.core.bitcnt.toNat)
    core.bitcnt := s.core.bitcnt + 8
    core.inBytesTotal := s.core.inBytesTotal + 1 }

/-- A core step whose action requires more bits than are held: a fetch, a truncation, an I/O error or a hold
(spec/40_bitreader.md R100, R103–R105). -/
def needMoreBits (s : State) : State :=
  match s.inq with
  | b :: rest => fetchByte b rest s
  | [] =>
    match s.interm with
    | .eof => raiseError .truncatedInput .eof .none { s with inWait := false }
    | .ioErr => raiseError .ioError .io .none { s with inWait := false }
    | .none => { s with inWait := true }

/-- The bits the decoder is given: those the action requires, after a header's first bit, which is in `BFINAL`. -/
def State.instrBits (s : State) : List Bool :=
  match s.core.phase with
  | .hBtype => s.core.bfinal :: s.heldBits.take 2
  | _ => s.heldBits.take s.needed

/-- The state an element's action starts from: the bits it requires removed, a code bit entered in `HCODE` and `HCNT`
(spec/40_bitreader.md R101, spec/41_huffman.md R131). -/
def State.consumed (s : State) : State :=
  match State.ctx s with
  | some (.symbol _ _ _ _) => s.takeCodeBit
  | _ => s.dropBits s.needed

end Sys2Proof.Machine
end

