-- ==== Sys2Proof/Machine/HostPort.lean ====
section
/-! DEFINITION. The host's accesses: the register map (spec/10_state.md R41–R49), the window port (spec/45_host.md R291),
the declared values (R289) and the input port (R290). -/

namespace Sys2Proof.Machine

/-- The register at word offset `off`; reserved offsets and `CMD` read 0 (spec/10_state.md R41, R49). -/
def State.register (s : State) (off : Nat) : Word :=
  if off = 0x04 then s.statusWord
  else if off = 0x08 then s.errorWord
  else if off = 0x0C then s.crcWord
  else if off = 0x10 then s.count
  else if off = 0x14 then s.declCrc
  else if off = 0x18 then s.declLen
  else if off = 0x1C then s.flushLen.setWidth 32
  else if off = 0x20 then s.core.inBytes
  else if off = 0x24 then s.core.data.setWidth 32
  else if off = 0x28 then s.configWord
  else 0

/-- The window byte the host reads at cell `i`: a free draw while `BUSY` and where the cell holds no value
(spec/45_host.md R291). -/
def State.windowByte (s : State) (i : Nat) : Byte :=
  if s.state = .busy then Config.freeByte s.draws i else s.cell i

/-- The free draws a window read makes. -/
def State.windowDraws (s : State) (i : Nat) : Draw := if s.state = .busy then s.draws.next else s.cellDraws i

/-- An access in the register contract: an aligned word below 0x8000 (spec/10_state.md R49). -/
def isRegisterAccess (off : Offset) (width : Width) : Bool :=
  width == .word && decide (off.toNat < 0x8000) && off.toNat % 4 == 0

/-- An access in the window contract: a byte at 0x8000 or above (spec/10_state.md R49). -/
def isWindowAccess (off : Offset) (width : Width) : Bool := width == .byte && decide (0x8000 ≤ off.toNat)

/-- A host read: what it returns goes to `reply`, and nothing else changes but the count of free draws
(spec/45_host.md R280, R291). -/
def hostRead (off : Offset) (width : Width) (s : State) : Result :=
  if isRegisterAccess off width then .next { s with reply := some (.word (s.register off.toNat)) }
  else if isWindowAccess off width then
    .next
      { s with
        reply := some (.byte (s.windowByte (off.toNat - 0x8000)))
        draws := s.windowDraws (off.toNat - 0x8000) }
  else .refused .outsideHostContract

/-- A host write of a register other than `CMD`: `DECL_CRC` and `DECL_LEN` except in `BUSY`; any other offset is ignored
(spec/45_host.md R280, R289; spec/10_state.md R49). -/
def hostWrite (off : Offset) (width : Width) (v : Word) (s : State) : Result :=
  if isRegisterAccess off width then
    if s.state = .busy then .next s
    else if off.toNat = 0x14 then .next { s with declCrc := v }
    else if off.toNat = 0x18 then .next { s with declLen := v }
    else .next s
  else if isWindowAccess off width then .next s
  else .refused .outsideHostContract

/-- `push(b)` (spec/45_host.md R290). -/
def pushByte (b : Byte) (s : State) : State :=
  if s.interm = .none then { s with inq := s.inq ++ [b] } else s

/-- `signal(EOF)` and `signal(IOERR)` (spec/45_host.md R290). -/
def signalEnd (t : Terminal) (s : State) : State := if s.interm = .none then { s with interm := t } else s

end Sys2Proof.Machine
end

