-- ==== Sys2Proof/Machine/Step.lean ====
section
/-! DEFINITION. One step of the machine: the turn at the head of the agenda, or the core's where the agenda is empty
(spec/20_memory.md R68; notes/assumptions/1.md, 2.md). -/

namespace Sys2Proof.Machine

/-- A core action, the bits it requires being held: the element the decoder reads is run by `exec`; a code bit that ends
no code stays in the phase; the phases with no element are the engine's (spec/00_scope.md R10, spec/41_huffman.md R131). -/
def coreAction (s : State) : Result :=
  match State.ctx s with
  | none => .next (engineAction s)
  | some c =>
    match decode c s.instrBits with
    | .ok (i, _) => exec i s.consumed
    | .error (.needBits _) => .next s.consumed
    | .error (.emptyTable t) => .next (raiseError .badHuffmanTable .emptyTable t s)
    | .error (.invalidCode t) => .next (raiseError .badHuffmanTable .invalidCode t s)
    | .error .outsideAlphabet => .fault .operandRange

/-- One core step, taken exactly while `STATE = BUSY` (spec/45_host.md R292); a step that is not a hold clears `IN_WAIT`
(spec/40_bitreader.md R103). -/
def coreStep (s : State) : Result :=
  if s.state = .busy then
    if s.prepared.core.bitcnt.toNat < s.prepared.needed then .next (needMoreBits s.prepared)
    else coreAction { s.prepared with inWait := false }
  else .next s

/-- One host step (spec/45_host.md R280); a write of `CMD` runs the command the word decodes to (R282). -/
def hostStep (a : HostAction) (s : State) : Result :=
  match a with
  | .read off width => hostRead off width s
  | .write off width v =>
    if off = 0 ∧ width = .word then exec (decodeCommand v) s else hostWrite off width v s
  | .push b => .next (pushByte b s)
  | .signalEof => .next (signalEnd .eof s)
  | .signalIoErr => .next (signalEnd .ioErr s)

/-- One step. -/
def step (s : State) : Host.Outcome State Fault Refusal :=
  match s.agenda with
  | [] => coreStep s
  | .core :: rest => coreStep { s with agenda := rest }
  | .host a :: rest => hostStep a { s with agenda := rest }
  | .powerOn :: rest => .next ({ s with agenda := rest } : State).powerOnReset

/-- `s` with the instruction `w` of the opcode table where the next step takes its instruction: a command word is the
host's next write of `CMD`; a stream element is the stream's next element, the core being BUSY in the phase that reads it,
with the bits before its last code bit already read (notes/assumptions/18.md). -/
def State.withFetchWord (s : State) (nbits w : Nat) : State :=
  match tableBits nbits w with
  | some (.command, _) => { s with agenda := .host (.write 0 .word (BitVec.ofNat 32 w)) :: s.agenda }
  | some (.header, bits) =>
    { s with
      agenda := .core :: s.agenda, state := .busy, core.phase := .hBtype
      core.bfinal := bits.headD false
      core.bitbuf := BitVec.ofNat 64 (natOfBits (bits.drop 1)), core.bitcnt := 2 }
  | some (.symbol a t h n, bits) =>
    match decode (.symbol a t h n) bits with
    | .ok (_, k) =>
      { s with
        agenda := .core :: s.agenda, state := .busy
        core.phase := if a = .dist then .lDsym else .lSym
        core.curLit := .fixed, core.curDist := .fixed
        core.hcode := BitVec.ofNat 15 (natOfBits (bits.take (k - 1)).reverse)
        core.hcnt := BitVec.ofNat 4 (k - 1)
        core.bitbuf := BitVec.ofNat 64 (natOfBits (bits.drop (k - 1)))
        core.bitcnt := BitVec.ofNat 6 (bits.length - (k - 1)) }
    | .error _ => s
  | _ => s

end Sys2Proof.Machine
end

