-- ==== Sys2Proof/Machine/Instances.lean ====
section
/-! DEFINITION. A system of several cores, each with all of its own state and its own parameters (spec/20_memory.md R74,
spec/60_exceptions.md R312, spec/70_reset_and_hazards.md R340). -/

namespace Sys2Proof.Machine

/-- `n` cores. -/
abbrev System (n : Nat) := Vector State n

/-- The system of this hardware: `N_INSTANCES` cores (spec/00_scope.md R5, spec/70_reset_and_hazards.md R340). -/
abbrev Platform := System Config.nInstances

/-- `n` cores after power-on reset, core `k` with its own parameters and its own free draws (notes/assumptions/19.md). -/
def System.atReset {n : Nat} (params : Vector Params n) : System n :=
  Vector.ofFn fun k =>
    { State.reset with config := params[k], draws := { owner := k.val, number := 0 } }

/-- Core `k` takes one step; `none` where its step stops. There is no start-up order and no signal between cores
(spec/70_reset_and_hazards.md R340). -/
def System.stepAt {n : Nat} (sys : System n) (k : Fin n) : Option (System n) :=
  match step sys[k] with
  | .next t => some (sys.set k t)
  | .fault _ => none
  | .refused _ => none

end Sys2Proof.Machine
end

