-- ==== Sys2Proof/Machine/Layout.lean ====
section
/-! DEFINITION. The reference two-level table layout of spec/41_huffman.md R127, which the spec gives as one an
implementation may use. Unobservable: no meaning reads it (notes/assumptions/24.md). -/

namespace Sys2Proof.Machine

/-- One slot of a table level (spec/41_huffman.md R126, R127): a symbol and its code length, a link to a subtable of `2 ^ k`
slots, or invalid. -/
inductive Slot where
  | entry (sym len : Nat)
  | link (k : Nat)
  | invalid
deriving DecidableEq, Repr

/-- `rev_L(c)`: the `n` bits of `c` reversed, so that the first stream bit is bit 0 (spec/41_huffman.md R127). -/
def reverseBits (n c : Nat) : Nat := natOfBits (codeBits n c)

/-- `R`, the root width of an alphabet's table (spec/00_scope.md R5). -/
def Alphabet.rootBits : Alphabet → Nat
  | .cl => Config.clRootBits
  | .ll => Config.litRootBits
  | .dist => Config.distRootBits

/-- The codes longer than `r` whose first `r` bits are those of root index `i`. -/
def longCodes (t : Table) (r i : Nat) : List CodeEntry :=
  t.codes.filter (fun e => decide (r < e.len) && reverseBits r (e.code / 2 ^ (e.len - r)) == i)

/-- Slot `i` of the root level of width `r` (spec/41_huffman.md R127). -/
def rootSlot (t : Table) (r i : Nat) : Slot :=
  match t.codes.find? (fun e => decide (e.len ≤ r) && i % 2 ^ e.len == reverseBits e.len e.code) with
  | some e => .entry e.sym e.len
  | none =>
    match longCodes t r i with
    | [] => .invalid
    | e :: es => .link (((e :: es).map CodeEntry.len).foldl max 0 - r)

/-- Slot `j` of the subtable that root index `i` links to (spec/41_huffman.md R127). -/
def subSlot (t : Table) (r i j : Nat) : Slot :=
  match (longCodes t r i).find? (fun e =>
      j % 2 ^ (e.len - r) == reverseBits (e.len - r) (e.code % 2 ^ (e.len - r))) with
  | some e => .entry e.sym e.len
  | none => .invalid

/-- The symbol the layout finds for the next bits of the stream, and its code length (spec/41_huffman.md R127). -/
def layoutLookup (t : Table) (r : Nat) (bits : List Bool) : Option (Nat × Nat) :=
  match rootSlot t r (natOfBits (bits.take r)) with
  | .entry sym len => some (sym, len)
  | .invalid => none
  | .link k =>
    match subSlot t r (natOfBits (bits.take r)) (natOfBits ((bits.drop r).take k)) with
    | .entry sym len => some (sym, len)
    | .link _ => none
    | .invalid => none

end Sys2Proof.Machine
end

