-- ==== Sys2Proof/Safety.lean ====
section
/-! DEFINITION. What holds of every state a run reaches, in the terms the statements use: invariants of one instance.
An `ERROR` state's core registers are unspecified (spec/60_exceptions.md R303), so what is said of them is said of the
other states. -/

namespace Sys2Proof.Machine

/-- The bytes delivered so far: the concatenation of `OUTLOG` (spec/10_state.md R51). -/
def State.output (s : State) : List Byte := s.outlog.flatMap FlushRecord.bytes

/-- `CRC_STATE` and `COUNT` account for the output exactly (spec/44_window_crc.md R264, R265). -/
def State.Accounted (s : State) : Prop :=
  s.crcState = crcOver 0xFFFFFFFF#32 s.output ∧ s.count = BitVec.ofNat 32 s.output.length

/-- The phases in which the stream is being decoded: not finished, and no command reading after the end. -/
def Phase.decoding : Phase → Bool
  | .xDone | .cRdbyte | .cTrailer => false
  | _ => true

/-- The phases of a dynamic block's header (spec/42_block.md R160 to R171). -/
def Phase.inDynamicHeader : Phase → Bool
  | .dHlit | .dHdist | .dHclen | .dCllen | .dClbuild | .dLensym | .dRepeat | .dBuild => true
  | _ => false

/-- `STATE`, `PHASE`, `W`, the status flags and the table selectors agree (spec/10_state.md R25, R26, R28, R38, R42;
spec/90_conflicts.md C5; notes/assumptions/30.md). -/
structure State.ControlOk (s : State) : Prop where
  idle : s.state = .idle → s.core.phase = .hBfinal
  busy : s.state = .busy → s.core.phase ≠ .xDone
  done : s.state = .done → s.core.phase = .xDone
  finalFlush : s.finalFlush = true → s.state = .flush ∧ s.core.phase = .xDone
  fullFlush : s.state = .flush → s.finalFlush = false → s.core.phase.decoding = true
  full : s.core.w.toNat = Config.windowSize ↔ s.state = .flush ∧ s.finalFlush = false
  range : s.core.w.toNat ≤ Config.windowSize
  waiting : s.inWait = true → s.state = .busy
  dynamic : s.core.phase.inDynamicHeader = true → s.core.curLit = .dyn ∧ s.core.curDist = .dyn

/-- The bit accumulator: no bit at or above `BITCNT`, at most 7 bits beyond what the action requires, and none that no
byte taken since reset brought, so that `BITPOS` is no truncated difference (spec/10_state.md R21, R22, R24;
spec/40_bitreader.md R108). -/
structure State.ReaderOk (s : State) : Prop where
  upper : s.core.bitbuf.toNat < 2 ^ s.core.bitcnt.toNat
  count : s.core.bitcnt.toNat < s.needed + 8
  position : s.core.bitcnt.toNat ≤ 8 * s.core.inBytesTotal

/-- The window holds the history that `HAVE` counts (spec/10_state.md R29, R52; spec/44_window_crc.md R268). -/
structure State.HistoryOk (s : State) : Prop where
  haveRange : s.core.haveCount.toNat ≤ Config.windowSize
  wHave : s.core.w.toNat ≤ s.core.haveCount.toNat
  written : ∀ i, i < s.core.w.toNat → (s.window.read i).isSome = true
  behind : s.core.phase.decoding = true →
    ∀ d, 1 ≤ d → d ≤ s.core.haveCount.toNat → (s.window.read (matchSource s.core.w.toNat d)).isSome = true

/-- While a flush is pending, the newest record of `OUTLOG` is `window[0..FLUSH_LEN)` (spec/10_state.md R46,
spec/44_window_crc.md R262, R272). -/
def State.FlushOk (s : State) : Prop :=
  s.state = .flush → s.core.w = s.flushLen ∧
    ∃ r, s.outlog.getLast? = some r ∧ r.final = s.finalFlush ∧ r.bytes.length = s.flushLen.toNat ∧
      ∀ i, i < s.flushLen.toNat → s.window.read i = r.bytes[i]?

/-- The number of symbols of an alphabet (spec/00_scope.md R12, spec/41_huffman.md R126). -/
def Alphabet.size : Alphabet → Nat
  | .cl => 19
  | .ll => 288
  | .dist => 32

/-- Every coded symbol of the table is in the alphabet. -/
def Table.within (t : Table) (a : Alphabet) : Prop := ∀ e, e ∈ t.codes → e.sym < a.size

/-- `HLIT` and `HDIST` in the ranges a dynamic block is decoded with (spec/42_block.md R162). -/
def State.CountsOk (s : State) : Prop :=
  257 ≤ s.core.hlit.toNat ∧ s.core.hlit.toNat ≤ 286 ∧ 1 ≤ s.core.hdist.toNat ∧ s.core.hdist.toNat ≤ 30

/-- The current literal/length and distance tables decode into their alphabets. -/
def State.TablesOk (s : State) : Prop := (State.litTable s).within .ll ∧ (State.distTable s).within .dist

/-- Each phase's working registers are in their ranges (spec/10_state.md R32–R37). -/
def State.RangesOk (s : State) : Prop :=
  match s.core.phase with
  | .sCopy => 0 < s.core.srem.toNat
  | .dHdist => 257 ≤ s.core.hlit.toNat ∧ s.core.hlit.toNat ≤ 288
  | .dHclen =>
    257 ≤ s.core.hlit.toNat ∧ s.core.hlit.toNat ≤ 288 ∧ 1 ≤ s.core.hdist.toNat ∧ s.core.hdist.toNat ≤ 32
  | .dCllen =>
    s.CountsOk ∧ 4 ≤ s.core.hclen.toNat ∧ s.core.hclen.toNat ≤ 19 ∧ s.core.clidx.toNat < s.core.hclen.toNat
  | .dClbuild => s.CountsOk
  | .dLensym => s.CountsOk ∧ s.core.lidx.toNat < s.lengthTotal ∧ s.core.tblCl.within .cl
  | .dRepeat =>
    s.CountsOk ∧ s.core.lidx.toNat < s.lengthTotal ∧ s.core.tblCl.within .cl ∧
      16 ≤ s.core.rsym.toNat ∧ s.core.rsym.toNat ≤ 18
  | .dBuild => s.CountsOk ∧ s.core.lidx.toNat = s.lengthTotal
  | .lSym => s.TablesOk
  | .lLenx => s.TablesOk ∧ 257 ≤ s.core.msym.toNat ∧ s.core.msym.toNat ≤ 285
  | .lDsym => s.TablesOk ∧ 3 ≤ s.core.mlen.toNat ∧ s.core.mlen.toNat ≤ 258
  | .lDistx => s.TablesOk ∧ 3 ≤ s.core.mlen.toNat ∧ s.core.mlen.toNat ≤ 258 ∧ s.core.dsym.toNat ≤ 29
  | .lCopy =>
    s.TablesOk ∧ 1 ≤ s.core.mrem.toNat ∧ s.core.mrem.toNat ≤ 258 ∧ s.core.dsym.toNat ≤ 29 ∧
      1 ≤ s.core.mdist.toNat ∧ s.core.mdist.toNat ≤ Config.windowSize ∧
      (s.config.distTooFar = .fault → s.core.mdist.toNat ≤ s.core.haveCount.toNat)
  | .cTrailer => s.core.tidx.toNat < 8
  | .hBfinal | .hBtype | .sLen | .sNlen | .dHlit | .fEnd | .cRdbyte | .xDone => True

/-- The invariant of one instance: the window is canonical, and outside `ERROR` the control, the reader, the history, the
pending flush and the working registers are as the spec says. -/
structure State.Inv (s : State) : Prop where
  window : s.window.wf = true
  core : s.state = .error ∨ (s.ControlOk ∧ s.ReaderOk ∧ s.HistoryOk ∧ s.FlushOk ∧ s.RangesOk)

/-- `k` core steps with no host step between them, up to the first fault or refusal. -/
def coreRun : Nat → State → Result
  | 0, s => .next s
  | k + 1, s =>
    match coreStep s with
    | .next t => coreRun k t
    | .fault f => .fault f
    | .refused r => .refused r

/-- The turn that step `s` takes is a reset: an OPEN command or a power-on reset. -/
def State.resetTurn (s : State) : Bool :=
  match s.agenda with
  | .powerOn :: _ => true
  | .host (.write off width v) :: _ => off == 0 && width == .word && v == 1
  | _ => false

/-! ## The words of the statements about one action -/

/-- The core is about to perform the action of phase `p`, the `n` bits it requires being held (spec/40_bitreader.md R100,
spec/45_host.md R292). -/
structure State.Ready (p : Phase) (n : Nat) (s : State) : Prop where
  busy : s.state = .busy
  phase : s.core.phase = p
  held : n ≤ s.core.bitcnt.toNat

/-- `BITBUF[n-1:0]`, the integer `GetBits(n)` returns (spec/40_bitreader.md R101). -/
def State.field (n : Nat) (s : State) : BitVec n := s.core.bitbuf.setWidth n

/-- `s` after `GetBits(n)` in a step that is not a hold (spec/40_bitreader.md R101, R103). -/
def State.took (n : Nat) (s : State) : State :=
  { s with
    inWait := false
    core.bitbuf := s.core.bitbuf >>> n
    core.bitcnt := s.core.bitcnt - BitVec.ofNat 6 n }

/-- `s` after `WindowWrite(b)`: the cell, `W`, `HAVE`, and the flush of a window it fills (spec/44_window_crc.md R260,
R261). -/
def State.afterWrite (b : Byte) (s : State) : State :=
  if s.core.w.toNat + 1 = Config.windowSize then flush false (s.putByte b) else s.putByte b

/-- Every register but `CONFIG` and the window has the value of the table of spec/70_reset_and_hazards.md R332. -/
structure State.AtReset (s : State) : Prop where
  bitbuf : s.core.bitbuf = 0
  bitcnt : s.core.bitcnt = 0
  inBytesTotal : s.core.inBytesTotal = 0
  inBytes : s.core.inBytes = 0
  phase : s.core.phase = .hBfinal
  state : s.state = .idle
  bfinal : s.core.bfinal = false
  btype : s.core.btype = 0
  w : s.core.w = 0
  haveCount : s.core.haveCount = 0
  crcState : s.crcState = 0xFFFFFFFF#32
  count : s.count = 0
  srem : s.core.srem = 0
  slen : s.core.slen = 0
  hlit : s.core.hlit = 0
  hdist : s.core.hdist = 0
  hclen : s.core.hclen = 0
  clidx : s.core.clidx = 0
  clLens : ∀ i : Nat, i < 19 → s.core.clLens[i]? = some 0
  lens : ∀ i : Nat, i < 316 → s.core.lens[i]? = some 0
  lidx : s.core.lidx = 0
  rsym : s.core.rsym = 0
  hcode : s.core.hcode = 0
  hcnt : s.core.hcnt = 0
  msym : s.core.msym = 0
  mlen : s.core.mlen = 0
  dsym : s.core.dsym = 0
  mdist : s.core.mdist = 0
  mrem : s.core.mrem = 0
  tblCl : s.core.tblCl.status = .empty
  tblLit : s.core.tblLit.status = .empty
  tblDist : s.core.tblDist.status = .empty
  curLit : s.core.curLit = .fixed
  curDist : s.core.curDist = .fixed
  finalFlush : s.finalFlush = false
  verified : s.verified = false
  reject : s.reject = false
  inWait : s.inWait = false
  errCode : s.errCode = .none
  errDetail : s.errDetail = .none
  errTable : s.errTable = .none
  declCrc : s.declCrc = 0
  declLen : s.declLen = 0
  flushLen : s.flushLen = 0
  data : s.core.data = 0
  tidx : s.core.tidx = 0
  inq : s.inq = []
  interm : s.interm = .none
  outlog : s.outlog = []

/-- What spec/60_exceptions.md R303 says a raise keeps. -/
structure State.KeepsOutput (s t : State) : Prop where
  outlog : t.outlog = s.outlog
  crcState : t.crcState = s.crcState
  count : t.count = s.count
  flushLen : t.flushLen = s.flushLen
  declCrc : t.declCrc = s.declCrc
  declLen : t.declLen = s.declLen
  verified : t.verified = s.verified
  config : t.config = s.config

/-- `r` lengths of value `v` are stored at `LIDX` and `LIDX` advances by `r`: cell by cell, with the phase and the code
registers as spec/42_block.md R166 and R170 give them; every other part of the state is kept. -/
structure State.StoresLengths (r : Nat) (v : BitVec 4) (s t : State) : Prop where
  stored : ∀ i, s.core.lidx.toNat ≤ i → i < s.core.lidx.toNat + r → t.core.lens[i]? = some v
  kept : ∀ i, i < s.core.lidx.toNat ∨ s.core.lidx.toNat + r ≤ i → t.core.lens[i]? = s.core.lens[i]?
  lidx : t.core.lidx = s.core.lidx + BitVec.ofNat 9 r
  finished : s.core.lidx.toNat + r = s.lengthTotal →
    t.core.phase = .dBuild ∧ t.core.hcode = s.core.hcode ∧ t.core.hcnt = s.core.hcnt
  goesOn : s.core.lidx.toNat + r ≠ s.lengthTotal →
    t.core.phase = .dLensym ∧ t.core.hcode = 0 ∧ t.core.hcnt = 0
  frame : t =
    { s with
      core.lens := t.core.lens, core.lidx := t.core.lidx, core.phase := t.core.phase
      core.hcode := t.core.hcode, core.hcnt := t.core.hcnt }

/-- The rule of a length symbol with `x` extra bits (spec/43_symbols.md R183 and the symbol's own rule): its code in
`FIXED_LIT`, what the symbol does when decoded, which bits its extra field is, and what the extra field does. -/
structure LengthRule {x : Nat} (sym : BitVec 9) (base : Nat) (fixedCode : List Bool) (mk : SymPart x → Instr) : Prop where
  code : decode (.symbol .ll fixedLit 0 0) fixedCode = .ok (mk .code, fixedCode.length)
  decoded : ∀ s, exec (mk .code) s = .next { s with core.msym := sym, core.phase := .lLenx }
  reads : ∀ s : State, s.Ready .lLenx x → s.core.msym = sym →
    coreStep s = exec (mk (.extra (s.field x))) (s.took x)
  extra : ∀ (e : BitVec x) (s : State),
    exec (mk (.extra e)) s =
      .next
        { s with
          core.mlen := BitVec.ofNat 9 (base + e.toNat), core.hcode := 0, core.hcnt := 0, core.phase := .lDsym }

/-- The rule of a distance symbol with `x` extra bits (spec/43_symbols.md R214, R215 and the symbol's own rule): its code
in `FIXED_DIST`, what the symbol does when decoded, which bits its extra field is, and what the extra field does: the
match begins, or the distance is too far. -/
structure DistanceRule {x : Nat} (sym : BitVec 5) (base : Nat) (fixedCode : List Bool) (mk : DistPart x → Instr) :
    Prop where
  code : decode (.symbol .dist fixedDist 0 0) fixedCode = .ok (mk .code, fixedCode.length)
  decoded : ∀ s, exec (mk .code) s = .next { s with core.dsym := sym, core.phase := .lDistx }
  reads : ∀ s : State, s.Ready .lDistx x → s.core.dsym = sym →
    coreStep s = exec (mk (.extra (s.field x))) (s.took x)
  extra : ∀ (e : BitVec x) (s : State),
    base + e.toNat ≤ s.core.haveCount.toNat ∨ s.config.distTooFar = .window →
    exec (mk (.extra e)) s =
      .next
        { s with
          core.mdist := BitVec.ofNat 16 (base + e.toNat), core.mrem := s.core.mlen, core.phase := .lCopy }
  tooFar : ∀ (e : BitVec x) (s : State),
    s.core.haveCount.toNat < base + e.toNat → s.config.distTooFar = .fault →
    exec (mk (.extra e)) s = .next (raiseError .badHuffmanTable .distTooFar .dist s)

/-- One byte of a match (spec/43_symbols.md R247): the source cell is `(W - MDIST) mod 32768`, read before the write at
`W`; a cell with no value gives a free draw (spec/10_state.md R52); the last byte ends the match. -/
structure CopyRule (sym : BitVec 5) (i : Instr) : Prop where
  reads : ∀ s : State, s.Ready .lCopy 0 → s.core.dsym = sym → coreStep s = exec i (s.took 0)
  byte : ∀ (s : State) (b : Byte), s.core.w.toNat < Config.windowSize →
    s.window.read (((s.core.w.toNat : Int) - s.core.mdist.toNat) % 32768).toNat = some b →
    exec i s = .next (State.afterWrite b s.countMatch)
  free : ∀ s : State, s.core.w.toNat < Config.windowSize →
    s.window.read (((s.core.w.toNat : Int) - s.core.mdist.toNat) % 32768).toNat = none →
    exec i s =
      .next
        (State.afterWrite
          (Config.freeByte s.draws (((s.core.w.toNat : Int) - s.core.mdist.toNat) % 32768).toNat)
          { s.countMatch with draws := s.draws.next })

/-! ## Huffman codes and the output -/

/-- The Kraft sum `Σ 2^-L[sym]` over the used symbols, scaled by `2^15` (spec/41_huffman.md R122). -/
def kraftSum (lens : List Nat) : Nat :=
  ((lens.filter (fun l => l != 0)).map (fun l => 2 ^ (Config.maxBits - l))).sum

/-- `OUTLOG` as spec/44_window_crc.md R262 and R267 give it: every flush but a last, final one is a full window, and a
final one is not empty, not full, and made once decoding has ended. -/
structure State.OutlogOk (s : State) : Prop where
  earlier : ∀ r, r ∈ s.outlog.dropLast → r.final = false ∧ r.bytes.length = Config.windowSize
  full : ∀ r, s.outlog.getLast? = some r → r.final = false → r.bytes.length = Config.windowSize
  last : ∀ r, s.outlog.getLast? = some r → r.final = true →
    0 < r.bytes.length ∧ r.bytes.length < Config.windowSize ∧ (s.state = .error ∨ s.core.phase.decoding = false)

/-- No two cores of a system make their free draws under one owner (notes/assumptions/19.md). -/
def System.OwnDraws {n : Nat} (sys : System n) : Prop :=
  ∀ j k : Fin n, sys[j].draws.owner = sys[k].draws.owner → j = k

end Sys2Proof.Machine
end

