-- ==== Sys2Proof/Certificates/Slice0/Obligations.lean ====
section
/-! DEFINITION. The statements for the provers. Each docstring names the rules of spec/ it formalises; what rests on a
choice of the model names its log entry. The words used (`Ready`, `took`, `field`, `afterWrite`, `AtReset`, the rules of
length and distance symbols, the invariants) stand in Sys2Proof/Safety.lean. -/

open Sys2Proof
open Sys2Proof.Machine

/-! ## Resets and the host's registers -/

/-- spec/70_reset_and_hazards.md R330, R331, R332, spec/45_host.md R283: both resets give every register the value of
R332's table and keep `CONFIG`; a power-on reset leaves no window cell with a value, an OPEN keeps the window; OPEN
completes in every state. That the model's own `agenda`, `reply` and `draws` are kept is log entry 22. -/
def Obligations.BothResetsGiveResetValues : Prop :=
  State.reset.AtReset ∧ (∀ i, State.reset.window.read i = none) ∧
  (∀ (s : State) (rest : List Turn), ∃ t, step { s with agenda := .powerOn :: rest } = .next t ∧ t.AtReset ∧
    (∀ i, t.window.read i = none) ∧ t.config = s.config ∧ t.agenda = rest ∧ t.reply = s.reply ∧ t.draws = s.draws) ∧
  (∀ s : State, ∃ t, exec .openStream s = .next t ∧ t.AtReset ∧ t.window = s.window ∧ t.config = s.config ∧
    t.agenda = s.agenda ∧ t.reply = s.reply ∧ t.draws = s.draws)

/-- spec/10_state.md R42, R26, R43, spec/60_exceptions.md R300, R301, R302: the fields of `STATUS` and `ERROR` and their
numbers. -/
def Obligations.StatusAndErrorFields : Prop :=
  ([RunState.idle, .busy, .flush, .done, .error].map RunState.code = [0, 1, 2, 3, 4] ∧
   ∀ s : State,
     s.statusWord.extractLsb' 0 3 = BitVec.ofNat 3 s.state.code ∧ s.statusWord.getLsbD 3 = s.finalFlush ∧
     s.statusWord.getLsbD 4 = s.core.bfinal ∧ s.statusWord.extractLsb' 5 2 = s.core.btype ∧
     s.statusWord.getLsbD 7 = s.verified ∧ s.statusWord.getLsbD 8 = s.reject ∧ s.statusWord.getLsbD 9 = s.inWait ∧
     s.statusWord.extractLsb' 10 22 = 0) ∧
  ([ErrCode.none, .badMagic, .unsupportedMethod, .encrypted, .multiPartUnsupported, .badHuffmanTable, .outOfMemory,
     .crcMismatch, .lengthMismatch, .truncatedInput, .ioError].map ErrCode.code = [0, 1, 2, 3, 4, 5, 6, 7, 8, 9, 10] ∧
   [ErrDetail.none, .oversub, .incomplete, .invalidCode, .emptyTable, .badBtype, .badCounts, .repeatNoPrev,
     .repeatOverflow, .distTooFar, .storedNlen, .trailerLen, .trailerCrc, .eof, .io, .oom].map ErrDetail.code
     = [0, 1, 2, 3, 4, 5, 6, 7, 8, 9, 10, 11, 12, 13, 14, 15] ∧
   [ErrTable.none, .codeLength, .litLen, .dist].map ErrTable.code = [0, 1, 2, 3] ∧
   ∀ s : State,
     s.errorWord.extractLsb' 0 8 = BitVec.ofNat 8 s.errCode.code ∧
     s.errorWord.extractLsb' 8 8 = BitVec.ofNat 8 s.errDetail.code ∧
     s.errorWord.extractLsb' 16 2 = BitVec.ofNat 2 s.errTable.code ∧ s.errorWord.extractLsb' 18 14 = 0)

/-- spec/10_state.md R41, R44 to R49, spec/45_host.md R280: what an aligned word read below 0x8000 returns, and that it
changes nothing else (the returned word stands in the model's own `reply`, log entry 8). -/
def Obligations.RegisterReads : Prop :=
  (∀ (s : State) (off : Offset), off.toNat < 0x8000 → off.toNat % 4 = 0 →
    hostStep (.read off .word) s = .next { s with reply := some (.word (s.register off.toNat)) }) ∧
  ∀ s : State,
    s.register 0x00 = 0 ∧ s.register 0x04 = s.statusWord ∧ s.register 0x08 = s.errorWord ∧
    s.register 0x0C = s.crcState ^^^ 0xFFFFFFFF#32 ∧ s.register 0x10 = s.count ∧ s.register 0x14 = s.declCrc ∧
    s.register 0x18 = s.declLen ∧ (s.register 0x1C).toNat = s.flushLen.toNat ∧ s.register 0x20 = s.core.inBytes ∧
    (s.register 0x24).toNat = s.core.data.toNat ∧
    (s.register 0x28).getLsbD 0 = s.config.singleDistCodeOk ∧
    (s.register 0x28).getLsbD 1 = decide (s.config.repeatNoPrev = .zero) ∧
    (s.register 0x28).getLsbD 2 = decide (s.config.distTooFar = .window) ∧
    (s.register 0x28).getLsbD 3 = s.config.oomPossible ∧ (s.register 0x28).extractLsb' 4 28 = 0 ∧
    ∀ o, 0x2C ≤ o → s.register o = 0

/-- spec/45_host.md R291, spec/10_state.md R40: a byte read at 0x8000 + `i` returns the cell where it holds a value and
the core is not BUSY, and a free draw otherwise; nothing else changes (the count of free draws is the model's own, log
entry 4). -/
def Obligations.WindowPortReads : Prop :=
  ∀ (s : State) (off : Offset), 0x8000 ≤ off.toNat →
    (∀ b, s.state ≠ .busy → s.window.read (off.toNat - 0x8000) = some b →
      hostStep (.read off .byte) s = .next { s with reply := some (.byte b) }) ∧
    (s.state = .busy ∨ s.window.read (off.toNat - 0x8000) = none →
      hostStep (.read off .byte) s =
        .next
          { s with
            reply := some (.byte (Config.freeByte s.draws (off.toNat - 0x8000))), draws := s.draws.next })

/-- spec/10_state.md R49: exactly the accesses that are neither an aligned word below 0x8000 nor a byte at 0x8000 and
above are refused. -/
def Obligations.AccessesOutsideContractRefused : Prop :=
  ∀ (s : State) (off : Offset) (width : Width) (v : Word),
    (hostStep (.read off width) s = .refused .outsideHostContract ↔
      ¬ ((width = .word ∧ off.toNat < 0x8000 ∧ off.toNat % 4 = 0) ∨ (width = .byte ∧ 0x8000 ≤ off.toNat))) ∧
    (hostStep (.write off width v) s = .refused .outsideHostContract ↔
      ¬ ((width = .word ∧ off.toNat < 0x8000 ∧ off.toNat % 4 = 0) ∨ (width = .byte ∧ 0x8000 ≤ off.toNat)))

/-- spec/45_host.md R289, R280, spec/10_state.md R49: `DECL_CRC` and `DECL_LEN` are written except in BUSY; a write of any
other offset of the contract but `CMD` is ignored. That a byte write of the window is such a write is log entry 21. -/
def Obligations.DeclaredValueWrites : Prop :=
  ∀ (s : State) (v : Word),
    (s.state ≠ .busy → hostStep (.write 0x14 .word v) s = .next { s with declCrc := v } ∧
      hostStep (.write 0x18 .word v) s = .next { s with declLen := v }) ∧
    (s.state = .busy → hostStep (.write 0x14 .word v) s = .next s ∧ hostStep (.write 0x18 .word v) s = .next s) ∧
    (∀ off : Offset, off.toNat < 0x8000 → off.toNat % 4 = 0 → off ≠ 0 → off ≠ 0x14 → off ≠ 0x18 →
      hostStep (.write off .word v) s = .next s) ∧
    (∀ off : Offset, 0x8000 ≤ off.toNat → hostStep (.write off .byte v) s = .next s)

/-- spec/45_host.md R290: pushes and signals, accepted in every `STATE` until a terminal signal. -/
def Obligations.InputPortRules : Prop :=
  ∀ (s : State) (b : Byte),
    (s.interm = .none → hostStep (.push b) s = .next { s with inq := s.inq ++ [b] } ∧
      hostStep .signalEof s = .next { s with interm := .eof } ∧
      hostStep .signalIoErr s = .next { s with interm := .ioErr }) ∧
    (s.interm ≠ .none → hostStep (.push b) s = .next s ∧ hostStep .signalEof s = .next s ∧
      hostStep .signalIoErr s = .next s)

/-! ## Commands -/

/-- spec/30_encoding.md R91, spec/45_host.md R281, R282, R288: the command a word is, every other word being reserved; a write
of `CMD` runs its command in the host step; the words accepted in each `STATE`; a rejected word sets `REJECT` and changes
nothing else, an accepted one clears it. -/
def Obligations.CommandWordsAndAcceptance : Prop :=
  (decodeCommand 1 = .openStream ∧ decodeCommand 2 = .resume ∧ decodeCommand 3 = .readByte .command ∧
   decodeCommand 4 = .check ∧ decodeCommand 5 = .checkTrailer .command ∧
   (∀ w : Word, w = 0 ∨ 6 ≤ w.toNat → decodeCommand w = .cmdReserved w) ∧
   ∀ w : Word, (decodeCommand w).wf = true ∧ (decodeCommand w).commandWord = some w) ∧
  ((∀ (s : State) (v : Word), hostStep (.write 0 .word v) s = exec (decodeCommand v) s) ∧
   (∀ (s : State) (v : Word), v = 1 ∨ (v = 2 ∧ s.state ≠ .busy) ∨ ((v = 3 ∨ v = 4 ∨ v = 5) ∧ s.state = .done) →
     ∃ t, exec (decodeCommand v) s = .next t ∧ t.reject = false) ∧
   (∀ (s : State) (v : Word), ¬ (v = 1 ∨ (v = 2 ∧ s.state ≠ .busy) ∨ ((v = 3 ∨ v = 4 ∨ v = 5) ∧ s.state = .done)) →
     exec (decodeCommand v) s = .next { s with reject := true }) ∧
   (∀ (s : State) (w : Word), exec (.cmdReserved w) s = .next { s with reject := true }))

/-- spec/45_host.md R284, spec/44_window_crc.md R266: RESUME in every `STATE`. -/
def Obligations.ResumeCommand : Prop :=
  ∀ s : State,
    (s.state = .idle → exec .resume s = .next { s with reject := false, state := .busy }) ∧
    (s.state = .flush → s.finalFlush = true →
      exec .resume s = .next { s with reject := false, core.w := 0, finalFlush := false, state := .done }) ∧
    (s.state = .flush → s.finalFlush = false →
      exec .resume s = .next { s with reject := false, core.w := 0, state := .busy }) ∧
    (s.state = .done ∨ s.state = .error → exec .resume s = .next { s with reject := false }) ∧
    (s.state = .busy → exec .resume s = .next { s with reject := true })

/-- spec/45_host.md R285: READ_BYTE, the command and the action of `C_RDBYTE`, which aligns first. -/
def Obligations.ReadByteCommand : Prop :=
  (∀ s : State, s.state = .done →
    exec (.readByte .command) s = .next { s with reject := false, core.phase := .cRdbyte, state := .busy }) ∧
  (∀ s : State, s.state = .busy → s.core.phase = .cRdbyte → 8 ≤ s.alignToByte.core.bitcnt.toNat →
    coreStep s = exec (.readByte (.byte (s.alignToByte.field 8))) (s.alignToByte.took 8)) ∧
  (∀ (s : State) (b : Byte),
    exec (.readByte (.byte b)) s = .next { s with core.data := b, core.phase := .xDone, state := .done })

/-- spec/45_host.md R286, spec/44_window_crc.md R269: CHECK, accepted in DONE only, the CRC compared first. -/
def Obligations.CheckCommand : Prop :=
  (∀ s : State, s.state = .done →
    exec .check s = .next ({ s with reject := false } : State).compareTrailer) ∧
  (∀ s : State, s.state ≠ .done → exec .check s = .next { s with reject := true }) ∧
  ∀ s : State,
    (s.crcState ^^^ 0xFFFFFFFF#32 ≠ s.declCrc → s.compareTrailer = raiseError .crcMismatch .trailerCrc .none s) ∧
    (s.crcState ^^^ 0xFFFFFFFF#32 = s.declCrc → s.count ≠ s.declLen →
      s.compareTrailer = raiseError .lengthMismatch .trailerLen .none s) ∧
    (s.crcState ^^^ 0xFFFFFFFF#32 = s.declCrc → s.count = s.declLen → s.compareTrailer = { s with verified := true })

/-- spec/45_host.md R287, spec/20_memory.md R64: CHECK_TRAILER, the command and the action of `C_TRAILER`: byte `TIDX` of
the trailer replaces byte `TIDX` of `DECL_CRC` (0 to 3) or byte `TIDX - 4` of `DECL_LEN` (4 to 7), low byte first, and the
eighth byte ends in a CHECK. That the action makes no alignment is log entry 16. -/
def Obligations.CheckTrailerCommand : Prop :=
  (∀ s : State, s.state = .done →
    exec (.checkTrailer .command) s =
      .next { s with reject := false, core.tidx := 0, core.phase := .cTrailer, state := .busy }) ∧
  (∀ s : State, s.Ready .cTrailer 8 → coreStep s = exec (.checkTrailer (.byte (s.field 8))) (s.took 8)) ∧
  (∀ (s : State) (b : Byte), s.core.tidx.toNat < 4 →
    exec (.checkTrailer (.byte b)) s =
      .next { s with declCrc := setByte s.declCrc s.core.tidx.toNat b, core.tidx := s.core.tidx + 1 }) ∧
  (∀ (s : State) (b : Byte), 4 ≤ s.core.tidx.toNat → s.core.tidx.toNat < 7 →
    exec (.checkTrailer (.byte b)) s =
      .next { s with declLen := setByte s.declLen (s.core.tidx.toNat - 4) b, core.tidx := s.core.tidx + 1 }) ∧
  (∀ (s : State) (b : Byte), s.core.tidx = 7 →
    exec (.checkTrailer (.byte b)) s =
      .next
        (State.compareTrailer
          { s with declLen := setByte s.declLen 3 b, core.tidx := 8, core.phase := .xDone, state := .done })) ∧
  ∀ (v : Word) (b : Byte) (k j : Nat), k < 4 → j < 4 →
    (setByte v k b).extractLsb' (8 * j) 8 = if j = k then b else v.extractLsb' (8 * j) 8

/-! ## Steps and the bit reader -/

/-- spec/45_host.md R292, spec/20_memory.md R68: a step is the turn at the head of the agenda, the core's where there is
none (log entry 1), and the core changes nothing unless `STATE = BUSY` (log entry 2). -/
def Obligations.TurnsAndScheduling : Prop :=
  ∀ s : State,
    (s.agenda = [] → step s = coreStep s) ∧
    (∀ rest, s.agenda = .core :: rest → step s = coreStep { s with agenda := rest }) ∧
    (∀ a rest, s.agenda = .host a :: rest → step s = hostStep a { s with agenda := rest }) ∧
    (s.state ≠ .busy → coreStep s = .next s)

/-- spec/00_scope.md R10, spec/30_encoding.md R89, spec/40_bitreader.md R101: where the bits the action requires decode to
an instruction, the core's step is that instruction's meaning, applied to the state with the bits removed; a write of
`CMD` is the meaning of the command its word decodes to. The instruction is well formed. spec/45_host.md R285, R287: that
`C_RDBYTE` aligns before it asks for its bits, and that `C_TRAILER`, like every other phase, does nothing before it asks, is
log entry 16. -/
def Obligations.StepRunsDecodedInstruction : Prop :=
  (∀ (s : State) (rest : List Turn) (c : Ctx) (i : Instr) (k : Nat), s.state = .busy → State.ctx s = some c →
    s.prepared.needed ≤ s.prepared.core.bitcnt.toNat → decode c s.prepared.instrBits = .ok (i, k) →
    i.wf = true ∧
    step { s with agenda := .core :: rest } =
      exec i ({ s.prepared with inWait := false, agenda := rest } : State).consumed) ∧
  (∀ (s : State) (rest : List Turn) (v : Word),
    step { s with agenda := .host (.write 0 .word v) :: rest } =
      exec (decodeCommand v) { s with agenda := rest }) ∧
  ∀ s : State,
    (s.core.phase ≠ .cRdbyte → s.prepared = s) ∧ (s.core.phase = .cRdbyte → s.prepared = s.alignToByte)

/-- spec/40_bitreader.md R100, R103, R104, R105: the bits each phase's action requires, and what the core's step is where
fewer are held: a fetch, a truncation, an I/O error or a hold. That a raise clears `IN_WAIT` is log entry 6, that
`C_RDBYTE` aligns first log entry 16. -/
def Obligations.NeedBitsFetchesOrHolds : Prop :=
  (∀ s : State,
    (s.core.phase = .hBfinal → s.needed = 1) ∧ (s.core.phase = .hBtype → s.needed = 2) ∧
    (s.core.phase = .sLen ∨ s.core.phase = .sNlen → s.needed = 16) ∧
    (s.core.phase = .sCopy ∨ s.core.phase = .cRdbyte ∨ s.core.phase = .cTrailer → s.needed = 8) ∧
    (s.core.phase = .dHlit ∨ s.core.phase = .dHdist → s.needed = 5) ∧ (s.core.phase = .dHclen → s.needed = 4) ∧
    (s.core.phase = .dCllen → s.needed = 3) ∧
    (s.core.phase = .dRepeat → s.needed = if s.core.rsym = 16 then 2 else if s.core.rsym = 17 then 3 else 7) ∧
    (s.core.phase = .dLensym → s.needed = if s.core.tblCl.status = .empty then 0 else 1) ∧
    (s.core.phase = .lSym → s.needed = if (State.litTable s).status = .empty then 0 else 1) ∧
    (s.core.phase = .lDsym → s.needed = if (State.distTable s).status = .empty then 0 else 1) ∧
    (∀ x base, s.core.phase = .lLenx → lengthRow s.core.msym.toNat = some (x, base) → s.needed = x) ∧
    (∀ x base, s.core.phase = .lDistx → distanceRow s.core.dsym.toNat = some (x, base) → s.needed = x) ∧
    (s.core.phase = .dClbuild ∨ s.core.phase = .dBuild ∨ s.core.phase = .lCopy ∨ s.core.phase = .fEnd → s.needed = 0)) ∧
  ∀ s : State, s.state = .busy → s.prepared.core.bitcnt.toNat < s.prepared.needed →
    (∀ b rest, s.inq = b :: rest →
      coreStep s =
        .next
          { s.prepared with
            inq := rest, inWait := false
            core.bitbuf := s.prepared.core.bitbuf ||| (b.setWidth 64 <<< s.prepared.core.bitcnt.toNat)
            core.bitcnt := s.prepared.core.bitcnt + 8
            core.inBytesTotal := s.core.inBytesTotal + 1 }) ∧
    (s.inq = [] → s.interm = .eof →
      coreStep s = .next (raiseError .truncatedInput .eof .none { s.prepared with inWait := false })) ∧
    (s.inq = [] → s.interm = .ioErr →
      coreStep s = .next (raiseError .ioError .io .none { s.prepared with inWait := false })) ∧
    (s.inq = [] → s.interm = .none → coreStep s = .next { s.prepared with inWait := true })

/-- spec/40_bitreader.md R101, R106, spec/20_memory.md R61: `GetBits` returns the next bits, the first read as bit 0, and
removes exactly them; `AlignToByte` removes the rest of the current byte; a fetch does not change the stream still to be
read: the byte's bits follow the held ones, least significant first. -/
def Obligations.BitReaderOrder : Prop :=
  ((∀ (s : State) (n : Nat), n ≤ s.core.bitcnt.toNat →
     natOfBits (s.heldBits.take n) = (s.field n).toNat ∧ (s.took n).heldBits = s.heldBits.drop n ∧
     (s.took n).core.bitcnt.toNat = s.core.bitcnt.toNat - n) ∧
   ∀ s : State,
     s.alignToByte =
       { s with
         core.bitbuf := s.core.bitbuf >>> (s.core.bitcnt.toNat % 8)
         core.bitcnt := s.core.bitcnt - BitVec.ofNat 6 (s.core.bitcnt.toNat % 8) } ∧
     s.alignToByte.heldBits = s.heldBits.drop (s.core.bitcnt.toNat % 8) ∧
     s.alignToByte.core.bitcnt.toNat = 8 * (s.core.bitcnt.toNat / 8) ∧
     (s.core.bitcnt.toNat % 8 = 0 → s.alignToByte = s)) ∧
  (∀ (s : State) (b : Byte) (rest : List Byte), s.core.bitbuf.toNat < 2 ^ s.core.bitcnt.toNat →
     s.core.bitcnt.toNat + 8 < 64 → s.inq = b :: rest → (fetchByte b rest s).pendingBits = s.pendingBits)

/-- spec/10_state.md R24, R22: in a state that meets the invariant, a core step that does not raise only moves forward in
the stream: what is left to read is what was left, without its first bits, at most the bits the action requires and the
rest of a byte, and `BITPOS`, taken from the unwrapped byte count, increases by exactly as many; `BITCNT` stays below 24. -/
def Obligations.StreamPositionOnlyAdvances : Prop :=
  ∀ s t : State, s.Inv → s.state = .busy → coreStep s = .next t → t.state ≠ .error →
    (∃ k, k ≤ s.needed + 7 ∧ t.pendingBits = s.pendingBits.drop k ∧ t.bitPos = s.bitPos + k) ∧
    t.core.bitcnt.toNat < 24

/-- spec/45_host.md R290, spec/20_memory.md R72: the core takes bytes from the head of `INQ` only, at most one a step, and
`IN_BYTES` counts them, modulo 2^32; it never changes `INTERM`. -/
def Obligations.BytesTakenInPushOrder : Prop :=
  ∀ s t : State, coreStep s = .next t →
    t.interm = s.interm ∧
    ((t.inq = s.inq ∧ (t.state = .error ∨ t.core.inBytesTotal = s.core.inBytesTotal)) ∨
      ∃ b, s.inq = b :: t.inq ∧ t.core.inBytesTotal = s.core.inBytesTotal + 1 ∧
        t.core.inBytes = s.core.inBytes + 1)

/-- spec/41_huffman.md R131, R132, R133, spec/42_block.md R165, spec/43_symbols.md R180, R214: one code bit of a symbol
decode. A table that is EMPTY raises before any bit is read; a code that is complete runs its symbol's instruction;
`maxlen` bits that match nothing raise; anything else stays in the phase with one more code bit. That a raise clears
`IN_WAIT` is log entry 6. -/
def Obligations.DecodeReadsOneCodeBit : Prop :=
  (∀ s : State,
    (s.core.phase = .dLensym → State.ctx s = some (.symbol .cl s.core.tblCl s.core.hcode s.core.hcnt)) ∧
    (s.core.phase = .lSym →
      State.ctx s =
        some (.symbol .ll (if s.core.curLit = .fixed then fixedLit else s.core.tblLit) s.core.hcode s.core.hcnt)) ∧
    (s.core.phase = .lDsym →
      State.ctx s =
        some (.symbol .dist (if s.core.curDist = .fixed then fixedDist else s.core.tblDist) s.core.hcode s.core.hcnt))) ∧
  (∀ (s : State) (a : Alphabet) (t : Table), s.state = .busy →
    State.ctx s = some (.symbol a t s.core.hcode s.core.hcnt) → t.status = .empty →
    coreStep s = .next (raiseError .badHuffmanTable .emptyTable a.errTable { s with inWait := false })) ∧
  (∀ (s : State) (a : Alphabet) (t : Table), s.state = .busy → 1 ≤ s.core.bitcnt.toNat →
    State.ctx s = some (.symbol a t s.core.hcode s.core.hcnt) → t.status ≠ .empty →
    (∀ e i, e ∈ t.codes → t.lookup e.len e.code = some e.sym → e.len = (s.core.hcnt + 1).toNat →
      e.code = ((s.core.hcode <<< 1) ||| (s.field 1).setWidth 15).toNat → symbolInstr a e.sym = some i →
      coreStep s =
        exec i
          { s.took 1 with
            core.hcode := (s.core.hcode <<< 1) ||| (s.field 1).setWidth 15, core.hcnt := s.core.hcnt + 1 }) ∧
    ((∀ e, e ∈ t.codes →
        ¬ (e.len = (s.core.hcnt + 1).toNat ∧ e.code = ((s.core.hcode <<< 1) ||| (s.field 1).setWidth 15).toNat)) →
      ((s.core.hcnt + 1).toNat = t.maxlen →
        coreStep s = .next (raiseError .badHuffmanTable .invalidCode a.errTable { s with inWait := false })) ∧
      ((s.core.hcnt + 1).toNat ≠ t.maxlen →
        coreStep s =
          .next
            { s.took 1 with
              core.hcode := (s.core.hcode <<< 1) ||| (s.field 1).setWidth 15, core.hcnt := s.core.hcnt + 1 })))

/-! ## Encodings and Huffman codes -/

/-- spec/30_encoding.md R80 to R91: decoding an encoded instruction gives it back, whatever bits follow, for every
instruction of every format; a symbol's context is the start of a decode with a table that `Build` gives (any lengths up
to 15 that are not over-subscribed). -/
def Obligations.DecodeOfEncode : Prop :=
  ∀ (c : Ctx) (i : Instr) (rest : List Bool), i.fits c = true →
    (∀ a t h n, c = .symbol a t h n →
      h = 0 ∧ n = 0 ∧ ∃ lens, (∀ l, l ∈ lens → l ≤ 15) ∧ tableStatus lens ≠ .oversub ∧ t = buildTable lens) →
    decode c (encode c i ++ rest) = .ok (i, (encode c i).length)

/-- spec/30_encoding.md R89: the bits a decode takes are the encoding of the instruction it gives, so each instruction has
one encoding in its context. -/
def Obligations.EncodeOfDecode : Prop :=
  ∀ (c : Ctx) (i : Instr) (k : Nat) (bits : List Bool), decode c bits = .ok (i, k) →
    (∀ a t h n, c = .symbol a t h n →
      h = 0 ∧ n = 0 ∧ ∃ lens, (∀ l, l ∈ lens → l ≤ 15) ∧ tableStatus lens ≠ .oversub ∧ t = buildTable lens) →
    k ≤ bits.length ∧ i.fits c = true ∧ encode c i = bits.take k

/-- spec/30_encoding.md R81 to R88: words written out from the encodings decode to their instructions, first bit read on
the left: one or more of every format. -/
def Obligations.SpecWordsDecode : Prop :=
  decode .header [true, false, false] = .ok (.blkStored true, 3) ∧
  decode .header [false, true, false] = .ok (.blkFixed false, 3) ∧
  decode .header [true, false, true] = .ok (.blkDynamic true, 3) ∧
  decode .header [true, true, true] = .ok (.blkReserved true, 3) ∧
  decode .storedLen [true, true, false, false, false, false, false, false,
    false, false, false, false, false, false, false, false] = .ok (.stored (.len 3), 16) ∧
  decode .hlit [false, false, true, false, false] = .ok (.dynhdr (.hlit 4), 5) ∧
  decode (.repeatExtra 18) [true, true, true, true, true, true, true] = .ok (.clRepZeroL (.extra 127), 7) ∧
  decode (.symbol .ll fixedLit 0 0) [true, false, false, true, false, false, false, true] = .ok (.lit 97, 8) ∧
  decode (.symbol .ll fixedLit 0 0) [true, true, true, true, true, true, true, true, true] = .ok (.lit 255, 9) ∧
  decode (.symbol .ll fixedLit 0 0) [false, false, false, false, false, false, false] = .ok (.eob, 7) ∧
  decode (.symbol .ll fixedLit 0 0) [true, true, false, false, false, true, true, false] = .ok (.llInvalid286, 8) ∧
  decode (.symbol .ll fixedLit 0 0) [true, true, false, false, false, true, true, true] = .ok (.llInvalid287, 8) ∧
  decode (.distExtra 4) [true] = .ok (.dist4 (.extra 1), 1)

/-- spec/41_huffman.md R129, R130: the fixed tables' statuses and every one of their codes; `11110` and `11111` code
nothing. -/
def Obligations.FixedTableCodes : Prop :=
  fixedLit.status = .complete ∧ fixedDist.status = .incomplete ∧ fixedLit.maxlen = 9 ∧ fixedDist.maxlen = 5 ∧
  (∀ s, s < 144 → fixedLit.codeOf s = some { sym := s, len := 8, code := 0x30 + s }) ∧
  (∀ s, 144 ≤ s → s < 256 → fixedLit.codeOf s = some { sym := s, len := 9, code := 0x190 + (s - 144) }) ∧
  (∀ s, 256 ≤ s → s < 280 → fixedLit.codeOf s = some { sym := s, len := 7, code := s - 256 }) ∧
  (∀ s, 280 ≤ s → s < 288 → fixedLit.codeOf s = some { sym := s, len := 8, code := 0xC0 + (s - 280) }) ∧
  (∀ d, d < 30 → fixedDist.codeOf d = some { sym := d, len := 5, code := d }) ∧
  fixedDist.lookup 5 30 = none ∧ fixedDist.lookup 5 31 = none

/-- spec/41_huffman.md R121, R122: the status of a length vector is the one its Kraft sum gives. -/
def Obligations.StatusIsKraftSum : Prop :=
  ∀ lens : List Nat, (∀ l, l ∈ lens → l ≤ 15) →
    (tableStatus lens = .empty ↔ ∀ l, l ∈ lens → l = 0) ∧
    (tableStatus lens = .complete ↔ kraftSum lens = 2 ^ 15) ∧
    (tableStatus lens = .incomplete ↔ 0 < kraftSum lens ∧ kraftSum lens < 2 ^ 15) ∧
    (tableStatus lens = .oversub ↔ 2 ^ 15 < kraftSum lens)

/-- spec/41_huffman.md R123: the canonical code. Every used symbol of a set that is not over-subscribed has one code, of
its length; codes of one length are consecutive in symbol order from the first code of that length; no code is a prefix of
another. -/
def Obligations.CanonicalCodesAreAPrefixCode : Prop :=
  ∀ lens : List Nat, (∀ l, l ∈ lens → l ≤ 15) → tableStatus lens ≠ .oversub →
    (∀ sym l, lens[sym]? = some l → l ≠ 0 → ∃ e, e ∈ (buildTable lens).codes ∧ e.sym = sym) ∧
    (∀ e, e ∈ (buildTable lens).codes → lens[e.sym]? = some e.len ∧ e.len ≠ 0 ∧ e.code < 2 ^ e.len ∧
      e.code = firstCode lens e.len + (lens.take e.sym).count e.len) ∧
    (firstCode lens 1 = 0 ∧
      ∀ len, 1 ≤ len → firstCode lens (len + 1) = 2 * (firstCode lens len + lens.count len)) ∧
    ∀ e e', e ∈ (buildTable lens).codes → e' ∈ (buildTable lens).codes →
      codeBits e.len e.code <+: codeBits e'.len e'.code → e = e'

/-- spec/41_huffman.md R127: the reference two-level layout, with any root width, finds for every bit sequence the symbol
that decoding bit by bit finds, after the same number of bits. The layout is unobservable (log entry 24). -/
def Obligations.LayoutFindsTheDecodedSymbol : Prop :=
  ∀ (lens : List Nat) (a : Alphabet) (r : Nat) (bits : List Bool), (∀ l, l ∈ lens → l ≤ 15) →
    tableStatus lens ≠ .oversub → 15 ≤ bits.length →
    layoutLookup (buildTable lens) r bits =
      match decodeCode (buildTable lens) a 0 0 bits with
      | .ok (sym, k) => some (sym, k)
      | .error _ => none

/-- spec/41_huffman.md R124, R125, R128: the acceptance policy of a dynamic build, and that out of memory is raised only
with `P_OOM_POSSIBLE` and only in place of a return (log entry 14). -/
def Obligations.AcceptancePolicy : Prop :=
  ∀ (a : Alphabet) (lens : List Nat) (s : State),
    (tableStatus lens = .oversub → buildDynamic a lens s = .error (.badHuffmanTable, .oversub)) ∧
    (tableStatus lens = .incomplete →
      ¬ (a = .dist ∧ s.config.singleDistCodeOk = true ∧ lens.filter (fun l => l != 0) = [1]) →
      buildDynamic a lens s = .error (.badHuffmanTable, .incomplete)) ∧
    (tableStatus lens = .complete ∨ tableStatus lens = .empty ∨
      (tableStatus lens = .incomplete ∧ a = .dist ∧ s.config.singleDistCodeOk = true ∧
        lens.filter (fun l => l != 0) = [1]) →
      (s.config.oomPossible = false → buildDynamic a lens s = .ok (buildTable lens)) ∧
      (s.config.oomPossible = true →
        buildDynamic a lens s =
          if Config.freeOom s.draws a.errTable then .error (.outOfMemory, .oom) else .ok (buildTable lens)))

/-! ## Blocks -/

/-- spec/42_block.md R150 to R155: the header's flag, its type and the four types. That a header's meaning writes `BFINAL`
again, with the value it holds, is log entry 13; that a dynamic header selects the dynamic tables, as spec/10_state.md R38
has it, is log entry 30. -/
def Obligations.BlockHeaders : Prop :=
  (∀ s : State, s.Ready .hBfinal 1 →
    coreStep s = .next { s.took 1 with core.bfinal := s.core.bitbuf.getLsbD 0, core.phase := .hBtype }) ∧
  (∀ s : State, s.Ready .hBtype 2 →
    (s.field 2 = 0 → coreStep s = exec (.blkStored s.core.bfinal) (s.took 2)) ∧
    (s.field 2 = 1 → coreStep s = exec (.blkFixed s.core.bfinal) (s.took 2)) ∧
    (s.field 2 = 2 → coreStep s = exec (.blkDynamic s.core.bfinal) (s.took 2)) ∧
    (s.field 2 = 3 → coreStep s = exec (.blkReserved s.core.bfinal) (s.took 2))) ∧
  ∀ (f : Bool) (s : State),
    exec (.blkStored f) s = .next { s.alignToByte with core.bfinal := f, core.btype := 0, core.phase := .sLen } ∧
    exec (.blkFixed f) s =
      .next
        { s with
          core.bfinal := f, core.btype := 1, core.curLit := .fixed, core.curDist := .fixed
          core.hcode := 0, core.hcnt := 0, core.phase := .lSym } ∧
    exec (.blkDynamic f) s =
      .next
        { s with
          core.bfinal := f, core.btype := 2, core.curLit := .dyn, core.curDist := .dyn, core.phase := .dHlit } ∧
    exec (.blkReserved f) s = .next (raiseError .badHuffmanTable .badBtype .none s)

/-- spec/42_block.md R156 to R159: LEN, then NLEN, which must be its one's complement; a block of length 0 ends; each payload
byte is written to the window, and the last one ends the block. -/
def Obligations.StoredBlock : Prop :=
  ((∀ s : State, s.Ready .sLen 16 → coreStep s = exec (.stored (.len (s.field 16))) (s.took 16)) ∧
   (∀ s : State, s.Ready .sNlen 16 → coreStep s = exec (.stored (.nlen (s.field 16))) (s.took 16)) ∧
   (∀ (v : BitVec 16) (s : State), exec (.stored (.len v)) s = .next { s with core.slen := v, core.phase := .sNlen }) ∧
   (∀ (v : BitVec 16) (s : State), v.toNat + s.core.slen.toNat ≠ 0xFFFF →
     exec (.stored (.nlen v)) s = .next (raiseError .lengthMismatch .storedNlen .none s)) ∧
   (∀ (v : BitVec 16) (s : State), v.toNat + s.core.slen.toNat = 0xFFFF → s.core.slen = 0 →
     exec (.stored (.nlen v)) s = .next { s with core.srem := 0, core.phase := if s.core.bfinal then .fEnd else .hBfinal }) ∧
   (∀ (v : BitVec 16) (s : State), v.toNat + s.core.slen.toNat = 0xFFFF → s.core.slen ≠ 0 →
     exec (.stored (.nlen v)) s = .next { s with core.srem := s.core.slen, core.phase := .sCopy })) ∧
  ((∀ s : State, s.Ready .sCopy 8 → coreStep s = exec (.stored (.byte (s.field 8))) (s.took 8)) ∧
   (∀ (b : Byte) (s : State), s.core.w.toNat < Config.windowSize → s.core.srem ≠ 1 →
     exec (.stored (.byte b)) s = .next (State.afterWrite b { s with core.srem := s.core.srem - 1 })) ∧
   (∀ (b : Byte) (s : State), s.core.w.toNat < Config.windowSize → s.core.srem = 1 →
     exec (.stored (.byte b)) s =
       .next
         (State.afterWrite b { s with core.srem := 0, core.phase := if s.core.bfinal then .fEnd else .hBfinal })))

/-- spec/42_block.md R160, R161, R162: the three counts with their offsets, and the check of the first two. -/
def Obligations.DynamicHeaderCounts : Prop :=
  (∀ s : State, s.Ready .dHlit 5 → coreStep s = exec (.dynhdr (.hlit (s.field 5))) (s.took 5)) ∧
  (∀ s : State, s.Ready .dHdist 5 → coreStep s = exec (.dynhdr (.hdist (s.field 5))) (s.took 5)) ∧
  (∀ s : State, s.Ready .dHclen 4 → coreStep s = exec (.dynhdr (.hclen (s.field 4))) (s.took 4)) ∧
  (∀ (v : BitVec 5) (s : State),
    exec (.dynhdr (.hlit v)) s = .next { s with core.hlit := BitVec.ofNat 9 (v.toNat + 257), core.phase := .dHdist }) ∧
  (∀ (v : BitVec 5) (s : State),
    exec (.dynhdr (.hdist v)) s = .next { s with core.hdist := BitVec.ofNat 6 (v.toNat + 1), core.phase := .dHclen }) ∧
  (∀ (v : BitVec 4) (s : State), 286 < s.core.hlit.toNat ∨ 30 < s.core.hdist.toNat →
    exec (.dynhdr (.hclen v)) s = .next (raiseError .badHuffmanTable .badCounts .none s)) ∧
  (∀ (v : BitVec 4) (s : State), s.core.hlit.toNat ≤ 286 → s.core.hdist.toNat ≤ 30 →
    exec (.dynhdr (.hclen v)) s =
      .next
        { s with
          core.hclen := BitVec.ofNat 5 (v.toNat + 4), core.clLens := Vector.replicate 19 0, core.clidx := 0
          core.phase := .dCllen })

/-- spec/42_block.md R163, R164, spec/30_encoding.md R84: the 3-bit lengths, given in the order of R84; then the code-length
table is built from all 19 lengths, or its error is raised. The count of free draws is log entry 4. -/
def Obligations.CodeLengthTable : Prop :=
  (clOrder = [16, 17, 18, 0, 8, 7, 9, 6, 10, 5, 11, 4, 12, 3, 13, 2, 14, 1, 15] ∧
   (∀ s : State, s.Ready .dCllen 3 → coreStep s = exec (.dynhdr (.clLen (s.field 3))) (s.took 3)) ∧
   ∀ (v : BitVec 3) (s : State) (sym : Nat), clOrder[s.core.clidx.toNat]? = some sym →
     ∃ t, exec (.dynhdr (.clLen v)) s = .next t ∧ t.core.clLens[sym]? = some v ∧
       (∀ i : Nat, i ≠ sym → t.core.clLens[i]? = s.core.clLens[i]?) ∧
       (s.core.clidx + 1 = s.core.hclen → t.core.phase = .dClbuild) ∧
       (s.core.clidx + 1 ≠ s.core.hclen → t.core.phase = s.core.phase) ∧
       t = { s with core.clLens := t.core.clLens, core.clidx := s.core.clidx + 1, core.phase := t.core.phase }) ∧
  ((∀ s : State, s.Ready .dClbuild 0 → coreStep s = exec (.dynhdr .build) (s.took 0)) ∧
   ∀ s : State,
     s.clLengths.length = 19 ∧ (∀ i : Nat, i < 19 → s.clLengths[i]? = (s.core.clLens[i]?).map BitVec.toNat) ∧
     (∀ e d, buildDynamic .cl s.clLengths s = .error (e, d) →
       exec (.dynhdr .build) s = .next (raiseError e d .codeLength s)) ∧
     (∀ t, buildDynamic .cl s.clLengths s = .ok t →
       exec (.dynhdr .build) s =
         .next
           { s with
             core.tblCl := t, core.lens := Vector.replicate 316 0, core.lidx := 0, core.hcode := 0, core.hcnt := 0
             core.phase := .dLensym, draws := if s.config.oomPossible then s.draws.next else s.draws }))

/-- spec/42_block.md R166 to R169: the code-length symbols, when decoded: a length is stored; a repeat symbol is kept for
its extra bits, symbol 16 first in the block raising unless the parameter lets it repeat 0. -/
def Obligations.CodeLengthSymbols : Prop :=
  (∀ (v : BitVec 4) (s : State), s.core.lidx.toNat + 1 ≤ 316 →
    ∃ t, exec (.clLen v) s = .next t ∧ s.StoresLengths 1 v t) ∧
  (∀ s : State, s.core.lidx = 0 → s.config.repeatNoPrev = .fault →
    exec (.clRepPrev .code) s = .next (raiseError .badHuffmanTable .repeatNoPrev .codeLength s)) ∧
  (∀ s : State, s.core.lidx ≠ 0 ∨ s.config.repeatNoPrev = .zero →
    exec (.clRepPrev .code) s = .next { s with core.rsym := 16, core.phase := .dRepeat }) ∧
  (∀ s : State, exec (.clRepZeroS .code) s = .next { s with core.rsym := 17, core.phase := .dRepeat }) ∧
  (∀ s : State, exec (.clRepZeroL .code) s = .next { s with core.rsym := 18, core.phase := .dRepeat })

/-- spec/42_block.md R170: the extra bits of a repeat symbol and the repeat; one that runs past `HLIT + HDIST` raises. -/
def Obligations.RepeatedCodeLengths : Prop :=
  (∀ s : State, s.Ready .dRepeat 2 → s.core.rsym = 16 →
    coreStep s = exec (.clRepPrev (.extra (s.field 2))) (s.took 2)) ∧
  (∀ s : State, s.Ready .dRepeat 3 → s.core.rsym = 17 →
    coreStep s = exec (.clRepZeroS (.extra (s.field 3))) (s.took 3)) ∧
  (∀ s : State, s.Ready .dRepeat 7 → s.core.rsym = 18 →
    coreStep s = exec (.clRepZeroL (.extra (s.field 7))) (s.took 7)) ∧
  (∀ (e : BitVec 2) (s : State) (v : BitVec 4), s.lengthTotal ≤ 316 →
    (s.core.lidx = 0 ∧ v = 0 ∨ s.core.lidx ≠ 0 ∧ s.core.lens[s.core.lidx.toNat - 1]? = some v) →
    s.core.lidx.toNat + (3 + e.toNat) ≤ s.core.hlit.toNat + s.core.hdist.toNat →
    ∃ t, exec (.clRepPrev (.extra e)) s = .next t ∧ s.StoresLengths (3 + e.toNat) v t) ∧
  (∀ (e : BitVec 3) (s : State), s.lengthTotal ≤ 316 →
    s.core.lidx.toNat + (3 + e.toNat) ≤ s.core.hlit.toNat + s.core.hdist.toNat →
    ∃ t, exec (.clRepZeroS (.extra e)) s = .next t ∧ s.StoresLengths (3 + e.toNat) 0 t) ∧
  (∀ (e : BitVec 7) (s : State), s.lengthTotal ≤ 316 →
    s.core.lidx.toNat + (11 + e.toNat) ≤ s.core.hlit.toNat + s.core.hdist.toNat →
    ∃ t, exec (.clRepZeroL (.extra e)) s = .next t ∧ s.StoresLengths (11 + e.toNat) 0 t) ∧
  (∀ (e : BitVec 2) (s : State), s.core.hlit.toNat + s.core.hdist.toNat < s.core.lidx.toNat + (3 + e.toNat) →
    exec (.clRepPrev (.extra e)) s = .next (raiseError .badHuffmanTable .repeatOverflow .codeLength s)) ∧
  (∀ (e : BitVec 3) (s : State), s.core.hlit.toNat + s.core.hdist.toNat < s.core.lidx.toNat + (3 + e.toNat) →
    exec (.clRepZeroS (.extra e)) s = .next (raiseError .badHuffmanTable .repeatOverflow .codeLength s)) ∧
  ∀ (e : BitVec 7) (s : State), s.core.hlit.toNat + s.core.hdist.toNat < s.core.lidx.toNat + (11 + e.toNat) →
    exec (.clRepZeroL (.extra e)) s = .next (raiseError .badHuffmanTable .repeatOverflow .codeLength s)

/-- spec/42_block.md R171, spec/60_exceptions.md R304: the literal/length table is built, and its error raised, before the
distance table. spec/10_state.md R38: short of a reset or a raise, no step changes a table register but `D_CLBUILD` and
`D_BUILD`, nor a selector but the one that ends a block's header. The count of free draws is log entry 4, that a raise
clears `IN_WAIT` log entry 6, that `D_BUILD` sets the selectors to what they are since `BLK_DYNAMIC` log entry 30. -/
def Obligations.SymbolTablesBuilt : Prop :=
  (∀ s : State, s.Ready .dBuild 0 →
    (∀ i : Nat, i < 316 → s.litLengths[i]? = if i < s.core.hlit.toNat then (s.core.lens[i]?).map BitVec.toNat else none) ∧
    (∀ i : Nat, s.distLengths[i]? =
      if i < s.core.hdist.toNat then (s.core.lens[s.core.hlit.toNat + i]?).map BitVec.toNat else none) ∧
    (∀ e d, buildDynamic .ll s.litLengths s = .error (e, d) →
      coreStep s = .next (raiseError e d .litLen { s with inWait := false })) ∧
    (∀ lt e d, buildDynamic .ll s.litLengths s = .ok lt → buildDynamic .dist s.distLengths s = .error (e, d) →
      coreStep s = .next (raiseError e d .dist { s with inWait := false })) ∧
    (∀ lt dt, buildDynamic .ll s.litLengths s = .ok lt → buildDynamic .dist s.distLengths s = .ok dt →
      coreStep s =
        .next
          { s with
            inWait := false
            core.tblLit := lt, core.tblDist := dt, core.curLit := .dyn, core.curDist := .dyn
            core.hcode := 0, core.hcnt := 0, core.phase := .lSym
            draws := if s.config.oomPossible then s.draws.next else s.draws })) ∧
  ∀ s t : State, s.Inv → s.resetTurn = false → step s = .next t → t.state ≠ .error →
    (s.core.phase ≠ .hBtype → t.core.curLit = s.core.curLit ∧ t.core.curDist = s.core.curDist) ∧
    (s.core.phase ≠ .dClbuild → t.core.tblCl = s.core.tblCl) ∧
    (s.core.phase ≠ .dBuild → t.core.tblLit = s.core.tblLit ∧ t.core.tblDist = s.core.tblDist)

/-- spec/42_block.md R173, spec/44_window_crc.md R267: the end of the final block: a final flush where the window holds
bytes, else DONE. -/
def Obligations.EndOfStream : Prop :=
  ∀ s : State, s.Ready .fEnd 0 →
    (0 < s.core.w.toNat →
      coreStep s = .next (flush true { s.alignToByte with inWait := false, core.phase := .xDone })) ∧
    (s.core.w = 0 → coreStep s = .next { s.alignToByte with inWait := false, core.phase := .xDone, state := .done })

/-! ## Literal/length and distance symbols -/

/-- spec/43_symbols.md R181, R182, R184, R216, spec/42_block.md R159: a literal is written to the window and a new symbol
begins; the end-of-block symbol ends the block; the four invalid symbols raise. -/
def Obligations.SymbolsWithoutExtraBits : Prop :=
  (∀ (c : Byte) (s : State), s.core.w.toNat < Config.windowSize →
    exec (.lit c) s = .next (State.afterWrite c { s with core.hcode := 0, core.hcnt := 0 })) ∧
  (∀ s : State, exec .eob s = .next { s with core.phase := if s.core.bfinal then .fEnd else .hBfinal }) ∧
  (∀ s : State, exec .llInvalid286 s = .next (raiseError .badHuffmanTable .invalidCode .litLen s) ∧
    exec .llInvalid287 s = .next (raiseError .badHuffmanTable .invalidCode .litLen s)) ∧
  (∀ s : State, exec .distInvalid30 s = .next (raiseError .badHuffmanTable .invalidCode .dist s) ∧
    exec .distInvalid31 s = .next (raiseError .badHuffmanTable .invalidCode .dist s))

/-- spec/43_symbols.md R183, R185 to R194: the length symbols 257 to 266: fixed code, extra bits, base
and effect. -/
def Obligations.LengthSymbols257To266 : Prop :=
  LengthRule 257 3 [false, false, false, false, false, false, true] .len257 ∧
  LengthRule 258 4 [false, false, false, false, false, true, false] .len258 ∧
  LengthRule 259 5 [false, false, false, false, false, true, true] .len259 ∧
  LengthRule 260 6 [false, false, false, false, true, false, false] .len260 ∧
  LengthRule 261 7 [false, false, false, false, true, false, true] .len261 ∧
  LengthRule 262 8 [false, false, false, false, true, true, false] .len262 ∧
  LengthRule 263 9 [false, false, false, false, true, true, true] .len263 ∧
  LengthRule 264 10 [false, false, false, true, false, false, false] .len264 ∧
  LengthRule 265 11 [false, false, false, true, false, false, true] .len265 ∧
  LengthRule 266 13 [false, false, false, true, false, true, false] .len266

/-- spec/43_symbols.md R183, R195 to R204: the length symbols 267 to 276: fixed code, extra bits, base
and effect. -/
def Obligations.LengthSymbols267To276 : Prop :=
  LengthRule 267 15 [false, false, false, true, false, true, true] .len267 ∧
  LengthRule 268 17 [false, false, false, true, true, false, false] .len268 ∧
  LengthRule 269 19 [false, false, false, true, true, false, true] .len269 ∧
  LengthRule 270 23 [false, false, false, true, true, true, false] .len270 ∧
  LengthRule 271 27 [false, false, false, true, true, true, true] .len271 ∧
  LengthRule 272 31 [false, false, true, false, false, false, false] .len272 ∧
  LengthRule 273 35 [false, false, true, false, false, false, true] .len273 ∧
  LengthRule 274 43 [false, false, true, false, false, true, false] .len274 ∧
  LengthRule 275 51 [false, false, true, false, false, true, true] .len275 ∧
  LengthRule 276 59 [false, false, true, false, true, false, false] .len276

/-- spec/43_symbols.md R183, R205 to R213: the length symbols 277 to 285: fixed code, extra bits, base
and effect. -/
def Obligations.LengthSymbols277To285 : Prop :=
  LengthRule 277 67 [false, false, true, false, true, false, true] .len277 ∧
  LengthRule 278 83 [false, false, true, false, true, true, false] .len278 ∧
  LengthRule 279 99 [false, false, true, false, true, true, true] .len279 ∧
  LengthRule 280 115 [true, true, false, false, false, false, false, false] .len280 ∧
  LengthRule 281 131 [true, true, false, false, false, false, false, true] .len281 ∧
  LengthRule 282 163 [true, true, false, false, false, false, true, false] .len282 ∧
  LengthRule 283 195 [true, true, false, false, false, false, true, true] .len283 ∧
  LengthRule 284 227 [true, true, false, false, false, true, false, false] .len284 ∧
  LengthRule 285 258 [true, true, false, false, false, true, false, true] .len285

/-- spec/43_symbols.md R214, R215, R217 to R226: the distance symbols 0 to 9: fixed code, extra bits, base
and effect. -/
def Obligations.DistanceSymbols0To9 : Prop :=
  DistanceRule 0 1 [false, false, false, false, false] .dist0 ∧
  DistanceRule 1 2 [false, false, false, false, true] .dist1 ∧
  DistanceRule 2 3 [false, false, false, true, false] .dist2 ∧
  DistanceRule 3 4 [false, false, false, true, true] .dist3 ∧
  DistanceRule 4 5 [false, false, true, false, false] .dist4 ∧
  DistanceRule 5 7 [false, false, true, false, true] .dist5 ∧
  DistanceRule 6 9 [false, false, true, true, false] .dist6 ∧
  DistanceRule 7 13 [false, false, true, true, true] .dist7 ∧
  DistanceRule 8 17 [false, true, false, false, false] .dist8 ∧
  DistanceRule 9 25 [false, true, false, false, true] .dist9

/-- spec/43_symbols.md R214, R215, R227 to R236: the distance symbols 10 to 19: fixed code, extra bits, base
and effect. -/
def Obligations.DistanceSymbols10To19 : Prop :=
  DistanceRule 10 33 [false, true, false, true, false] .dist10 ∧
  DistanceRule 11 49 [false, true, false, true, true] .dist11 ∧
  DistanceRule 12 65 [false, true, true, false, false] .dist12 ∧
  DistanceRule 13 97 [false, true, true, false, true] .dist13 ∧
  DistanceRule 14 129 [false, true, true, true, false] .dist14 ∧
  DistanceRule 15 193 [false, true, true, true, true] .dist15 ∧
  DistanceRule 16 257 [true, false, false, false, false] .dist16 ∧
  DistanceRule 17 385 [true, false, false, false, true] .dist17 ∧
  DistanceRule 18 513 [true, false, false, true, false] .dist18 ∧
  DistanceRule 19 769 [true, false, false, true, true] .dist19

/-- spec/43_symbols.md R214, R215, R237 to R246: the distance symbols 20 to 29: fixed code, extra bits, base
and effect. -/
def Obligations.DistanceSymbols20To29 : Prop :=
  DistanceRule 20 1025 [true, false, true, false, false] .dist20 ∧
  DistanceRule 21 1537 [true, false, true, false, true] .dist21 ∧
  DistanceRule 22 2049 [true, false, true, true, false] .dist22 ∧
  DistanceRule 23 3073 [true, false, true, true, true] .dist23 ∧
  DistanceRule 24 4097 [true, true, false, false, false] .dist24 ∧
  DistanceRule 25 6145 [true, true, false, false, true] .dist25 ∧
  DistanceRule 26 8193 [true, true, false, true, false] .dist26 ∧
  DistanceRule 27 12289 [true, true, false, true, true] .dist27 ∧
  DistanceRule 28 16385 [true, true, true, false, false] .dist28 ∧
  DistanceRule 29 24577 [true, true, true, false, true] .dist29

/-- spec/43_symbols.md R183, R215, spec/30_encoding.md R88: every length is 3 to 258 and every distance 1 to 32768, so the
9 bits of `MLEN` and the 16 bits of `MDIST` hold them exactly. -/
def Obligations.LengthsAndDistancesInRange : Prop :=
  (∀ sym x base e, lengthRow sym = some (x, base) → e < 2 ^ x →
    3 ≤ base + e ∧ base + e ≤ 258 ∧ (BitVec.ofNat 9 (base + e)).toNat = base + e) ∧
  ∀ sym x base e, distanceRow sym = some (x, base) → e < 2 ^ x →
    1 ≤ base + e ∧ base + e ≤ 32768 ∧ (BitVec.ofNat 16 (base + e)).toNat = base + e

/-- spec/43_symbols.md R247, spec/20_memory.md R67, spec/10_state.md R52: one byte of a match, for every distance symbol;
`countMatch` counts it, and after the last byte a new symbol begins. A free draw is log entry 4. -/
def Obligations.MatchCopiesOneByte : Prop :=
  (∀ s : State,
    (s.core.mrem ≠ 1 → s.countMatch = { s with core.mrem := s.core.mrem - 1 }) ∧
    (s.core.mrem = 1 →
      s.countMatch = { s with core.mrem := 0, core.hcode := 0, core.hcnt := 0, core.phase := .lSym })) ∧
  CopyRule 0 (.dist0 .copy) ∧ CopyRule 1 (.dist1 .copy) ∧ CopyRule 2 (.dist2 .copy) ∧
  CopyRule 3 (.dist3 .copy) ∧ CopyRule 4 (.dist4 .copy) ∧ CopyRule 5 (.dist5 .copy) ∧
  CopyRule 6 (.dist6 .copy) ∧ CopyRule 7 (.dist7 .copy) ∧ CopyRule 8 (.dist8 .copy) ∧
  CopyRule 9 (.dist9 .copy) ∧ CopyRule 10 (.dist10 .copy) ∧ CopyRule 11 (.dist11 .copy) ∧
  CopyRule 12 (.dist12 .copy) ∧ CopyRule 13 (.dist13 .copy) ∧ CopyRule 14 (.dist14 .copy) ∧
  CopyRule 15 (.dist15 .copy) ∧ CopyRule 16 (.dist16 .copy) ∧ CopyRule 17 (.dist17 .copy) ∧
  CopyRule 18 (.dist18 .copy) ∧ CopyRule 19 (.dist19 .copy) ∧ CopyRule 20 (.dist20 .copy) ∧
  CopyRule 21 (.dist21 .copy) ∧ CopyRule 22 (.dist22 .copy) ∧ CopyRule 23 (.dist23 .copy) ∧
  CopyRule 24 (.dist24 .copy) ∧ CopyRule 25 (.dist25 .copy) ∧ CopyRule 26 (.dist26 .copy) ∧
  CopyRule 27 (.dist27 .copy) ∧ CopyRule 28 (.dist28 .copy) ∧ CopyRule 29 (.dist29 .copy)

/-! ## Window, flush and CRC -/

/-- spec/44_window_crc.md R260, R261, R262, R265: `WindowWrite` and `Flush`, part by part: one cell is written, `W` and
`HAVE` advance, the write that fills the window flushes all of it, and a flush delivers `window[0..W)`, folds it into the
CRC and counts it. -/
def Obligations.WindowWriteAndFlush : Prop :=
  (∀ (b : Byte) (s : State), s.core.w.toNat + 1 < Config.windowSize →
    s.afterWrite b =
      { s with
        window := s.window.write s.core.w.toNat b, core.w := s.core.w + 1
        core.haveCount := if s.core.haveCount.toNat < 32768 then s.core.haveCount + 1 else 32768 }) ∧
  (∀ (b : Byte) (s : State), s.core.w.toNat + 1 = Config.windowSize →
    s.afterWrite b =
      flush false
        { s with
          window := s.window.write s.core.w.toNat b, core.w := s.core.w + 1
          core.haveCount := if s.core.haveCount.toNat < 32768 then s.core.haveCount + 1 else 32768 }) ∧
  (∀ (m : Memory) (a i : Nat) (b : Byte), (m.write a b).read i = if i = a then some b else m.read i) ∧
  (∀ (final : Bool) (s : State),
    flush final s =
      { s with
        outlog := s.outlog ++ [{ bytes := s.flushBytes, final := final }]
        crcState := s.flushBytes.foldl crcUpdate s.crcState
        count := s.count + BitVec.ofNat 32 s.core.w.toNat
        flushLen := s.core.w, finalFlush := final, state := .flush }) ∧
  (∀ s : State, s.flushBytes.length = s.core.w.toNat) ∧
  ∀ (s : State) (i : Nat) (b : Byte), i < s.core.w.toNat → s.window.read i = some b → s.flushBytes[i]? = some b

/-- spec/44_window_crc.md R263: one byte of the CRC-32, and the check values of spec/95_test_vectors.md W1. -/
def Obligations.CrcOfBytes : Prop :=
  (∀ (c : Word) (b : Byte),
    crcUpdate c b =
      (fun c : Word => if c.getLsbD 0 then (c >>> 1) ^^^ 0xEDB88320#32 else c >>> 1)^[8] (c ^^^ b.setWidth 32)) ∧
  crcOver 0xFFFFFFFF#32 [] ^^^ 0xFFFFFFFF#32 = 0 ∧
  crcOver 0xFFFFFFFF#32 [0x61] ^^^ 0xFFFFFFFF#32 = 0xE8B7BE43#32 ∧
  crcOver 0xFFFFFFFF#32 [0x61, 0x62, 0x63] ^^^ 0xFFFFFFFF#32 = 0x352441C2#32 ∧
  crcOver 0xFFFFFFFF#32 [0x31, 0x32, 0x33, 0x34, 0x35, 0x36, 0x37, 0x38, 0x39] ^^^ 0xFFFFFFFF#32 = 0xCBF43926#32

/-- spec/43_symbols.md R247, spec/20_memory.md R70: a whole match that fills no window, in a state that meets the
invariant: after one step for each byte the last `MDIST` bytes stand repeated periodically, every other cell is as before,
and a new symbol begins. -/
def Obligations.OverlappedMatchRepeatsPeriodically : Prop :=
  ∀ s : State, s.Inv → s.state = .busy → s.core.phase = .lCopy → s.core.mdist.toNat ≤ s.core.haveCount.toNat →
    s.core.w.toNat + s.core.mrem.toNat < Config.windowSize →
    ∃ t, coreRun s.core.mrem.toNat s = .next t ∧ t.state = .busy ∧ t.core.phase = .lSym ∧
      t.core.w.toNat = s.core.w.toNat + s.core.mrem.toNat ∧
      (∀ j, j < s.core.mrem.toNat →
        t.window.read (s.core.w.toNat + j) =
          s.window.read
            (((s.core.w.toNat : Int) + ((j % s.core.mdist.toNat : Nat) : Int) - s.core.mdist.toNat) % 32768).toNat) ∧
      ∀ a, a < s.core.w.toNat ∨ s.core.w.toNat + s.core.mrem.toNat ≤ a → t.window.read a = s.window.read a

/-- spec/43_symbols.md R248, spec/44_window_crc.md R261, R266: the byte of a match that fills the window suspends the
core, the rest of the match being kept, and RESUME continues it from cell `32768 - MDIST`; where it was the last byte the
core is suspended before the next symbol. The bounds on `DSYM` and `MDIST` are those the invariant has in `L_COPY`
(`State.RangesOk`, `Obligations.StepKeepsInvariant`). -/
def Obligations.MatchSpansAFlush : Prop :=
  ∀ s : State, s.Ready .lCopy 0 → s.core.w = 32767 → s.core.dsym.toNat ≤ 29 → 1 ≤ s.core.mdist.toNat → s.core.mdist.toNat ≤ 32768 →
    ∃ t u, coreStep s = .next t ∧ exec .resume t = .next u ∧
      t.state = .flush ∧ t.finalFlush = false ∧ t.core.w = 32768 ∧ t.flushLen = 32768 ∧
      (s.core.mrem ≠ 1 → t.core.phase = .lCopy ∧ t.core.mrem = s.core.mrem - 1) ∧
      (s.core.mrem = 1 → t.core.phase = .lSym ∧ t.core.mrem = 0 ∧ t.core.hcode = 0 ∧ t.core.hcnt = 0) ∧
      t.core.mdist = s.core.mdist ∧ u.state = .busy ∧ u.core.w = 0 ∧ u.window = t.window ∧
      u.core.phase = t.core.phase ∧ u.core.mrem = t.core.mrem ∧ u.core.mdist = s.core.mdist ∧
      u.sourceCell = 32768 - s.core.mdist.toNat

/-! ## Errors -/

/-- spec/60_exceptions.md R303: a raise records its error and stops the core, keeps what R303 lists, and leaves the other
core registers unspecified (a free draw, log entries 4 and 5); a core step that ends in ERROR has made no flush and
changed nothing else that R303 lists, but for the trailer byte a CHECK_TRAILER stored before its CHECK. -/
def Obligations.RaiseKeepsOutput : Prop :=
  (∀ (e : ErrCode) (d : ErrDetail) (tb : ErrTable) (s : State),
    (raiseError e d tb s).errCode = e ∧ (raiseError e d tb s).errDetail = d ∧ (raiseError e d tb s).errTable = tb ∧
    (raiseError e d tb s).state = .error ∧ s.KeepsOutput (raiseError e d tb s) ∧
    (raiseError e d tb s).core = Config.freeRegs s.draws) ∧
  ∀ s t : State, coreStep s = .next t → s.state = .busy → t.state = .error →
    t.outlog = s.outlog ∧ t.crcState = s.crcState ∧ t.count = s.count ∧ t.flushLen = s.flushLen ∧
    t.verified = s.verified ∧ t.config = s.config ∧ t.core = Config.freeRegs s.draws ∧
    (s.core.phase ≠ .cTrailer → t.declCrc = s.declCrc ∧ t.declLen = s.declLen)

/-- spec/60_exceptions.md R307: every error the core or a CHECK raises is one of the listed ones, and out of memory only
with `P_OOM_POSSIBLE`. -/
def Obligations.RaisedErrorsAreListed : Prop :=
  ∀ s t : State, coreStep s = .next t ∨ exec .check s = .next t → s.state ≠ .error → t.state = .error →
    (t.errCode = .outOfMemory → s.config.oomPossible = true) ∧
    (t.errCode, t.errDetail, t.errTable) ∈
      [(ErrCode.badHuffmanTable, ErrDetail.badBtype, ErrTable.none), (.badHuffmanTable, .badCounts, .none),
       (.badHuffmanTable, .oversub, .codeLength), (.badHuffmanTable, .incomplete, .codeLength),
       (.badHuffmanTable, .emptyTable, .codeLength), (.badHuffmanTable, .repeatNoPrev, .codeLength),
       (.badHuffmanTable, .repeatOverflow, .codeLength), (.badHuffmanTable, .oversub, .litLen),
       (.badHuffmanTable, .incomplete, .litLen), (.badHuffmanTable, .oversub, .dist),
       (.badHuffmanTable, .incomplete, .dist), (.badHuffmanTable, .emptyTable, .litLen),
       (.badHuffmanTable, .emptyTable, .dist), (.badHuffmanTable, .invalidCode, .codeLength),
       (.badHuffmanTable, .invalidCode, .litLen), (.badHuffmanTable, .invalidCode, .dist),
       (.badHuffmanTable, .distTooFar, .dist), (.outOfMemory, .oom, .codeLength), (.outOfMemory, .oom, .litLen),
       (.outOfMemory, .oom, .dist), (.crcMismatch, .trailerCrc, .none), (.lengthMismatch, .storedNlen, .none),
       (.lengthMismatch, .trailerLen, .none), (.truncatedInput, .eof, .none), (.ioError, .io, .none)]

/-- spec/60_exceptions.md R305, R304, spec/45_host.md R283: an error is sticky: whatever turn comes, but an OPEN or a
power-on reset, the state stays ERROR with the same `ERROR`, output, window and core registers; RESUME is accepted with no
effect, READ_BYTE, CHECK and CHECK_TRAILER are rejected, pushes and signals are accepted, the core reads nothing, and OPEN
leaves ERROR. -/
def Obligations.ErrorIsSticky : Prop :=
  (∀ s t : State, s.state = .error → s.resetTurn = false → step s = .next t →
    t.state = .error ∧ t.errorWord = s.errorWord ∧ t.outlog = s.outlog ∧ t.crcState = s.crcState ∧
    t.count = s.count ∧ t.flushLen = s.flushLen ∧ t.verified = s.verified ∧ t.window = s.window ∧ t.core = s.core) ∧
  ∀ s : State, s.state = .error →
    exec .resume s = .next { s with reject := false } ∧
    exec (.readByte .command) s = .next { s with reject := true } ∧
    exec .check s = .next { s with reject := true } ∧
    exec (.checkTrailer .command) s = .next { s with reject := true } ∧
    (s.interm = .none → (∀ b, hostStep (.push b) s = .next { s with inq := s.inq ++ [b] }) ∧
      hostStep .signalEof s = .next { s with interm := .eof } ∧
      hostStep .signalIoErr s = .next { s with interm := .ioErr }) ∧
    (∀ t, coreStep s = .next t → t.inq = s.inq ∧ t.interm = s.interm ∧ t.core = s.core) ∧
    ∃ t, exec .openStream s = .next t ∧ t.state = .idle ∧ t.errorWord = 0

/-! ## Invariants and whole-machine rules -/

/-- The state after reset meets the three invariants (spec/70_reset_and_hazards.md R332). -/
def Obligations.ResetMeetsInvariants : Prop :=
  State.reset.Inv ∧ State.reset.Accounted ∧ State.reset.OutlogOk

/-- Every step keeps the invariant of one instance (`State.Inv`: the canonical window, the control registers, the bit
accumulator, the history behind `W`, the pending flush, the working registers' ranges). -/
def Obligations.StepKeepsInvariant : Prop :=
  ∀ s t : State, s.Inv → step s = .next t → t.Inv

/-- From a state that meets the invariant no step stops with a fault: the model's faults are unreachable (log entry 11).
A refusal is a host access outside the contract, and nothing else. -/
def Obligations.InvariantStatesNeverFault : Prop :=
  ∀ s : State, s.Inv →
    (∀ f, step s ≠ .fault f) ∧ (∀ r, step s = .refused r → r = .outsideHostContract)

/-- spec/44_window_crc.md R264, R265, spec/10_state.md R51: in every run `CRC_STATE` and `COUNT` are those of the bytes
delivered: every step keeps the account. -/
def Obligations.OutputStaysAccounted : Prop :=
  ∀ s t : State, s.Accounted → step s = .next t → t.Accounted

/-- spec/44_window_crc.md R262, R267: every flush but a last, final one is a full window; the final one is not empty, not
full, and nothing follows it. -/
def Obligations.OutlogKeepsItsShape : Prop :=
  ∀ s t : State, s.Inv → s.OutlogOk → step s = .next t → t.OutlogOk

/-- spec/10_state.md R51, R48: a step other than a reset appends at most one flush to `OUTLOG`, the one then pending; and no
step changes `CONFIG`. -/
def Obligations.OutputOnlyGrows : Prop :=
  ∀ s t : State, step s = .next t →
    t.config = s.config ∧
    (s.resetTurn = false →
      t.outlog = s.outlog ∨
        ∃ r, t.outlog = s.outlog ++ [r] ∧ s.state = .busy ∧ t.state = .flush ∧
          r.bytes.length = t.flushLen.toNat ∧ r.final = t.finalFlush)

/-- spec/45_host.md R291, spec/10_state.md R46, R52: in a state that meets the invariant, while a flush is pending the host
reads its bytes at 0x8000 onwards; and under the default parameter a match never reads a cell with no value. -/
def Obligations.InvariantStatesReadWrittenCells : Prop :=
  ∀ s : State, s.Inv →
    (s.state = .flush → ∃ r, s.outlog.getLast? = some r ∧ r.bytes.length = s.flushLen.toNat ∧
      ∀ (off : Offset) (b : Byte), 0x8000 ≤ off.toNat → r.bytes[off.toNat - 0x8000]? = some b →
        hostStep (.read off .byte) s = .next { s with reply := some (.byte b) }) ∧
    (s.state = .busy → s.core.phase = .lCopy → s.config.distTooFar = .fault →
      ∃ b, s.window.read s.sourceCell = some b)

/-- spec/70_reset_and_hazards.md R338: a core step that neither holds nor raises takes an input byte, consumes bits, writes
one window byte, or is a bit-free action; and with a finite input and a terminated port the core leaves BUSY after a finite
number of its steps. That `L_LENX` and `L_DISTX` with no extra bits, which R338's list of bit-free actions leaves out, are
steps too, as R183 and R215 have them, is the model's choice, log entry 28. -/
def Obligations.CoreReachesASuspension : Prop :=
  (∀ s t : State, s.Inv → s.state = .busy → coreStep s = .next t → t.state ≠ .error →
    t = { s with inWait := true } ∨ s.inq.length = t.inq.length + 1 ∨ s.bitPos < t.bitPos ∨
      (∃ b, t.window = s.window.write s.core.w.toNat b ∧ t.core.w = s.core.w + 1) ∨
      s.core.phase = .dClbuild ∨ s.core.phase = .dBuild ∨ s.core.phase = .fEnd ∨
      ((s.core.phase = .lLenx ∨ s.core.phase = .lDistx) ∧ s.needed = 0)) ∧
  ∀ s : State, s.Inv → s.state = .busy → s.interm ≠ .none →
    ∃ k t, coreRun k s = .next t ∧ (t.state = .flush ∨ t.state = .done ∨ t.state = .error)

/-- spec/20_memory.md R74, spec/60_exceptions.md R312, spec/70_reset_and_hazards.md R340: the hardware has at least one core;
after power-on reset each is at its reset values with its own parameters; a step of one is a step of its own state and
changes no other. That no two cores' free draws are tied, at reset and after every step, is log entry 19. -/
def Obligations.InstancesShareNothing : Prop :=
  1 ≤ Config.nInstances ∧
  (∀ (n : Nat) (params : Vector Params n),
    (System.atReset params).OwnDraws ∧
    ∀ k : Fin n, (System.atReset params)[k].AtReset ∧ (∀ i, (System.atReset params)[k].window.read i = none) ∧
      (System.atReset params)[k].config = params[k]) ∧
  ∀ (n : Nat) (sys sys' : System n) (k : Fin n), sys.stepAt k = some sys' →
    step sys[k] = .next sys'[k] ∧ (∀ j : Fin n, j ≠ k → sys'[j] = sys[j]) ∧ (sys.OwnDraws → sys'.OwnDraws)
end

