-- ==== Sys2Proof/Laws/Bits.lean ====
section
/-! SUPPORT. The laws of bit lists: integer fields and Huffman codes as lists of bits, and the held bits of the
accumulator. -/

namespace Sys2Proof.Machine

@[simp] theorem length_bitsOf (n v : Nat) : (bitsOf n v).length = n := by simp [bitsOf]

@[simp] theorem length_codeBits (n v : Nat) : (codeBits n v).length = n := by simp [codeBits]

@[simp] theorem bitsOf_zero (v : Nat) : bitsOf 0 v = [] := rfl

/-- The first bit of a field is its bit 0 (spec/20_memory.md R62). -/
theorem bitsOf_succ (n v : Nat) : bitsOf (n + 1) v = v.testBit 0 :: bitsOf n (v / 2) := by
  simp only [bitsOf, List.range_succ_eq_map, List.map_cons, List.map_map]
  refine congrArg _ (List.map_congr_left fun i _ => ?_)
  simp [Nat.testBit_succ]

/-- A code's bits with one more bit read are its bits followed by that bit (spec/20_memory.md R63). -/
theorem codeBits_succ (n v : Nat) : codeBits (n + 1) v = codeBits n (v / 2) ++ [v.testBit 0] := by
  simp [codeBits, bitsOf_succ]

theorem getElem?_bitsOf (n v i : Nat) : (bitsOf n v)[i]? = if i < n then some (v.testBit i) else none := by
  by_cases h : i < n <;> simp [bitsOf, h]

theorem take_bitsOf (n m v : Nat) : (bitsOf n v).take m = bitsOf (min m n) v := by
  simp [bitsOf, ← List.map_take, List.take_range]

theorem drop_bitsOf (n m v : Nat) : (bitsOf n v).drop m = bitsOf (n - m) (v / 2 ^ m) := by
  refine List.ext_getElem? fun i => ?_
  rw [List.getElem?_drop, getElem?_bitsOf, getElem?_bitsOf]
  rw [← Nat.shiftRight_eq_div_pow, Nat.testBit_shiftRight]
  by_cases h : m + i < n
  · rw [if_pos h, if_pos (by omega)]
  · rw [if_neg h, if_neg (by omega)]

theorem natOfBits_bitsOf (n v : Nat) : natOfBits (bitsOf n v) = v % 2 ^ n := by
  induction n generalizing v with
  | zero => simp [natOfBits, Nat.mod_one]
  | succ n ih =>
    rw [bitsOf_succ, natOfBits, ih, Nat.pow_succ, Nat.mul_comm (2 ^ n) 2, Nat.mod_mul]
    simp [Nat.testBit_zero]
    rcases Nat.mod_two_eq_zero_or_one v with h | h <;> simp [h]

theorem natOfBits_lt (bs : List Bool) : natOfBits bs < 2 ^ bs.length := by
  induction bs with
  | nil => simp [natOfBits]
  | cons b bs ih =>
    have : b.toNat ≤ 1 := by cases b <;> simp
    simp only [natOfBits, List.length_cons, Nat.pow_succ]
    omega

theorem bitsOf_natOfBits (bs : List Bool) : bitsOf bs.length (natOfBits bs) = bs := by
  induction bs with
  | nil => rfl
  | cons b bs ih =>
    have h2 : (b.toNat + 2 * natOfBits bs) / 2 = natOfBits bs := by
      have : b.toNat ≤ 1 := by cases b <;> simp
      omega
    have h1 : (b.toNat + 2 * natOfBits bs).testBit 0 = b := by
      cases b <;> simp [Nat.testBit_zero, Nat.add_mul_mod_self_left]
    rw [List.length_cons, bitsOf_succ, natOfBits, h1, h2, ih]

/-- Two fields of one width with the same bits are the same number. -/
theorem bitsOf_inj {n v w : Nat} (hv : v < 2 ^ n) (hw : w < 2 ^ n) (h : bitsOf n v = bitsOf n w) : v = w := by
  have := congrArg natOfBits h
  rwa [natOfBits_bitsOf, natOfBits_bitsOf, Nat.mod_eq_of_lt hv, Nat.mod_eq_of_lt hw] at this

theorem bitsOf_append (n m v w : Nat) (hv : v < 2 ^ n) :
    bitsOf n v ++ bitsOf m w = bitsOf (n + m) (v + 2 ^ n * w) := by
  induction n generalizing v with
  | zero =>
    have : v = 0 := by simpa using hv
    simp [this]
  | succ n ih =>
    have h1 : (v + 2 ^ (n + 1) * w).testBit 0 = v.testBit 0 := by
      simp [Nat.testBit_zero, Nat.pow_succ, Nat.mul_comm (2 ^ n) 2, Nat.mul_assoc, Nat.add_mul_mod_self_left]
    have h2 : (v + 2 ^ (n + 1) * w) / 2 = v / 2 + 2 ^ n * w := by
      rw [Nat.pow_succ, Nat.mul_comm (2 ^ n) 2, Nat.mul_assoc]; omega
    rw [show n + 1 + m = n + m + 1 by omega, bitsOf_succ, bitsOf_succ, h1, h2, List.cons_append,
      ih (v / 2) (by rw [Nat.pow_succ] at hv; omega)]

@[simp] theorem length_heldBits (s : State) : s.heldBits.length = s.core.bitcnt.toNat := by simp [State.heldBits]

/-- The next `n` held bits, as an integer, are `BITBUF[n-1:0]` (spec/40_bitreader.md R101). -/
theorem natOfBits_take_heldBits (s : State) {n : Nat} (h : n ≤ s.core.bitcnt.toNat) :
    natOfBits (s.heldBits.take n) = (s.field n).toNat := by
  rw [State.heldBits, take_bitsOf, natOfBits_bitsOf, Nat.min_eq_left h]
  simp [State.field]

/-- `BITCNT` after `n` held bits are removed. -/
theorem bitcnt_sub_toNat (b : BitVec 6) {n : Nat} (h : n ≤ b.toNat) : (b - BitVec.ofNat 6 n).toNat = b.toNat - n := by
  have := b.isLt
  rw [BitVec.toNat_sub, BitVec.toNat_ofNat, Nat.mod_eq_of_lt (show n < 2 ^ 6 by omega)]
  omega

/-- Removing `n` held bits (spec/40_bitreader.md R101). -/
theorem heldBits_dropBits (s : State) {n : Nat} (h : n ≤ s.core.bitcnt.toNat) :
    (s.dropBits n).heldBits = s.heldBits.drop n := by
  rw [State.heldBits, State.heldBits, drop_bitsOf]
  show bitsOf (s.core.bitcnt - BitVec.ofNat 6 n).toNat (s.core.bitbuf >>> n).toNat = _
  rw [bitcnt_sub_toNat _ h, BitVec.toNat_ushiftRight, Nat.shiftRight_eq_div_pow]

end Sys2Proof.Machine
end

