-- ==== Sys2Proof/Laws/Memory.lean ====
section
/-! SUPPORT. The laws of the window as memory: a read after a write, and the canonical form kept by every write. -/

namespace Sys2Proof.Machine

/-- A read after a write: the byte written at its cell, every other cell as before. -/
theorem Memory.read_write (m : Memory) (a i : Nat) (b : Byte) :
    (m.write a b).read i = if i = a then some b else m.read i := by
  induction m with
  | nil => simp [Memory.write, Memory.read]
  | cons c m ih =>
    obtain ⟨x, y⟩ := c
    by_cases h1 : a < x
    · simp only [Memory.write, h1, if_true, Memory.read]
    · by_cases h2 : a = x
      · subst h2
        simp only [Memory.write, lt_irrefl, if_true, if_false, Memory.read]
        split_ifs <;> rfl
      · simp only [Memory.write, h1, h2, if_false, Memory.read, ih]
        split_ifs <;> first | rfl | omega

@[simp] theorem Memory.read_write_same (m : Memory) (a : Nat) (b : Byte) : (m.write a b).read a = some b := by
  simp [Memory.read_write]

theorem Memory.read_write_other (m : Memory) {a i : Nat} (b : Byte) (h : i ≠ a) : (m.write a b).read i = m.read i := by
  simp [Memory.read_write, h]

/-- The cells of a written window: the one written, or an old one. -/
theorem Memory.mem_write {m : Memory} {a : Nat} {b : Byte} {c : Host.Cell} (h : c ∈ m.write a b) :
    c = (a, b) ∨ c ∈ m := by
  induction m with
  | nil => simpa [Memory.write] using h
  | cons d m ih =>
    obtain ⟨x, y⟩ := d
    simp only [Memory.write] at h
    split_ifs at h <;> simp only [List.mem_cons] at h ⊢ <;> tauto

/-- Every write of a cell of the window keeps the canonical form. -/
theorem Memory.wf_write {m : Memory} {a : Nat} (b : Byte) (h : m.wf = true) (ha : a < Config.windowSize) :
    (m.write a b).wf = true := by
  simp only [Memory.wf, Bool.and_eq_true, decide_eq_true_eq, List.all_eq_true] at h ⊢
  obtain ⟨hs, hb⟩ := h
  refine ⟨?_, fun c hc => ?_⟩
  · clear hb
    induction m with
    | nil => simp [Memory.write]
    | cons d m ih =>
      obtain ⟨x, y⟩ := d
      rw [List.pairwise_cons] at hs
      simp only [Memory.write]
      split_ifs with h1 h2
      · refine List.pairwise_cons.2 ⟨fun c hc => ?_, List.pairwise_cons.2 hs⟩
        rcases List.mem_cons.1 hc with rfl | hc
        · exact h1
        · exact h1.trans (hs.1 c hc)
      · exact h2 ▸ List.pairwise_cons.2 hs
      · refine List.pairwise_cons.2 ⟨fun c hc => ?_, ih hs.2⟩
        rcases Memory.mem_write hc with rfl | hc
        · show x < a; omega
        · exact hs.1 c hc
  · rcases Memory.mem_write hc with rfl | hc
    · exact ha
    · exact hb c hc

/-- The empty window is canonical, and no cell of it holds a value. -/
@[simp] theorem Memory.wf_nil : Memory.wf [] = true := rfl

@[simp] theorem Memory.read_nil (i : Nat) : Memory.read [] i = none := rfl

/-- A canonical window read at an index it does not have gives no value. -/
theorem Memory.read_out_of_range {m : Memory} {i : Nat} (h : m.wf = true) (hi : Config.windowSize ≤ i) :
    m.read i = none := by
  simp only [Memory.wf, Bool.and_eq_true, decide_eq_true_eq, List.all_eq_true] at h
  obtain ⟨-, hb⟩ := h
  induction m with
  | nil => rfl
  | cons c m ih =>
    have hc := hb c (List.mem_cons_self ..)
    simp only [Memory.read]
    rw [if_neg (by omega), ih fun d hd => hb d (List.mem_cons_of_mem _ hd)]

/-- Canonical windows with the same cells are equal. -/
theorem Memory.ext_of_wf {m n : Memory} (hm : m.wf = true) (hn : n.wf = true) (h : ∀ i, m.read i = n.read i) :
    m = n := by
  simp only [Memory.wf, Bool.and_eq_true, decide_eq_true_eq] at hm hn
  replace hm := hm.1
  replace hn := hn.1
  have low : ∀ (m : Memory) (a : Nat), (∀ c, c ∈ m → a < c.1) → m.read a = none := by
    intro m a
    induction m with
    | nil => intro _; rfl
    | cons c m ih =>
      intro hc
      have := hc c (List.mem_cons_self ..)
      simp only [Memory.read]
      rw [if_neg (by omega), ih fun d hd => hc d (List.mem_cons_of_mem _ hd)]
  induction m generalizing n with
  | nil =>
    cases n with
    | nil => rfl
    | cons d n => have := h d.1; simp [Memory.read] at this
  | cons c m ih =>
    rw [List.pairwise_cons] at hm
    cases n with
    | nil => have := h c.1; simp [Memory.read] at this
    | cons d n =>
      rw [List.pairwise_cons] at hn
      have hcd : c.1 = d.1 := by
        rcases Nat.lt_trichotomy c.1 d.1 with hlt | heq | hgt
        · have h1 := h c.1
          have h2 := low (d :: n) c.1 fun e he => by
            rcases List.mem_cons.1 he with rfl | he
            · exact hlt
            · exact hlt.trans (hn.1 e he)
          rw [h2] at h1
          simp [Memory.read] at h1
        · exact heq
        · have h1 := h d.1
          have h2 := low (c :: m) d.1 fun e he => by
            rcases List.mem_cons.1 he with rfl | he
            · exact hgt
            · exact hgt.trans (hm.1 e he)
          rw [h2] at h1
          simp [Memory.read] at h1
      have hy : c.2 = d.2 := by
        have h1 := h c.1
        simp only [Memory.read, hcd, if_true] at h1
        simpa using h1
      have : c = d := Prod.ext hcd hy
      subst this
      refine congrArg (c :: ·) (ih (fun i => ?_) hm.2 hn.2)
      have hi := h i
      simp only [Memory.read] at hi
      split_ifs at hi with hc
      · rw [hc, low m c.1 hm.1, low n c.1 hn.1]
      · exact hi

end Sys2Proof.Machine
end

