-- ==== Sys2Proof/Laws/State.lean ====
section
/-! SUPPORT. The fields of the state after each shared update: one lemma per field, so that no proof unfolds a record
update. -/

namespace Sys2Proof.Machine

/-! ### `Draw.next`, `CoreRegs.inBytes` -/

@[simp] theorem Draw.next_owner (d : Draw) : d.next.owner = d.owner := rfl
@[simp] theorem Draw.next_number (d : Draw) : d.next.number = d.number + 1 := rfl

/-- One more byte taken is one more in `IN_BYTES`, modulo 2^32 (spec/10_state.md R23). -/
theorem CoreRegs.inBytes_succ (c : CoreRegs) :
    ({ c with inBytesTotal := c.inBytesTotal + 1 } : CoreRegs).inBytes = c.inBytes + 1 := by
  simp [CoreRegs.inBytes, BitVec.ofNat_add]

/-! ### `dropBits` -/

@[simp] theorem State.dropBits_core (n : Nat) (s : State) :
    (s.dropBits n).core = { s.core with bitbuf := s.core.bitbuf >>> n, bitcnt := s.core.bitcnt - BitVec.ofNat 6 n } := rfl
@[simp] theorem State.dropBits_state (n : Nat) (s : State) : (s.dropBits n).state = s.state := rfl
@[simp] theorem State.dropBits_finalFlush (n : Nat) (s : State) : (s.dropBits n).finalFlush = s.finalFlush := rfl
@[simp] theorem State.dropBits_verified (n : Nat) (s : State) : (s.dropBits n).verified = s.verified := rfl
@[simp] theorem State.dropBits_reject (n : Nat) (s : State) : (s.dropBits n).reject = s.reject := rfl
@[simp] theorem State.dropBits_inWait (n : Nat) (s : State) : (s.dropBits n).inWait = s.inWait := rfl
@[simp] theorem State.dropBits_crcState (n : Nat) (s : State) : (s.dropBits n).crcState = s.crcState := rfl
@[simp] theorem State.dropBits_count (n : Nat) (s : State) : (s.dropBits n).count = s.count := rfl
@[simp] theorem State.dropBits_errCode (n : Nat) (s : State) : (s.dropBits n).errCode = s.errCode := rfl
@[simp] theorem State.dropBits_errDetail (n : Nat) (s : State) : (s.dropBits n).errDetail = s.errDetail := rfl
@[simp] theorem State.dropBits_errTable (n : Nat) (s : State) : (s.dropBits n).errTable = s.errTable := rfl
@[simp] theorem State.dropBits_declCrc (n : Nat) (s : State) : (s.dropBits n).declCrc = s.declCrc := rfl
@[simp] theorem State.dropBits_declLen (n : Nat) (s : State) : (s.dropBits n).declLen = s.declLen := rfl
@[simp] theorem State.dropBits_flushLen (n : Nat) (s : State) : (s.dropBits n).flushLen = s.flushLen := rfl
@[simp] theorem State.dropBits_config (n : Nat) (s : State) : (s.dropBits n).config = s.config := rfl
@[simp] theorem State.dropBits_window (n : Nat) (s : State) : (s.dropBits n).window = s.window := rfl
@[simp] theorem State.dropBits_inq (n : Nat) (s : State) : (s.dropBits n).inq = s.inq := rfl
@[simp] theorem State.dropBits_interm (n : Nat) (s : State) : (s.dropBits n).interm = s.interm := rfl
@[simp] theorem State.dropBits_outlog (n : Nat) (s : State) : (s.dropBits n).outlog = s.outlog := rfl
@[simp] theorem State.dropBits_agenda (n : Nat) (s : State) : (s.dropBits n).agenda = s.agenda := rfl
@[simp] theorem State.dropBits_reply (n : Nat) (s : State) : (s.dropBits n).reply = s.reply := rfl
@[simp] theorem State.dropBits_draws (n : Nat) (s : State) : (s.dropBits n).draws = s.draws := rfl

/-! ### `alignToByte` -/

@[simp] theorem State.alignToByte_core (s : State) :
    (s.alignToByte).core =
    { s.core with
      bitbuf := s.core.bitbuf >>> (s.core.bitcnt.toNat % 8)
      bitcnt := s.core.bitcnt - BitVec.ofNat 6 (s.core.bitcnt.toNat % 8) } := rfl
@[simp] theorem State.alignToByte_state (s : State) : (s.alignToByte).state = s.state := rfl
@[simp] theorem State.alignToByte_finalFlush (s : State) : (s.alignToByte).finalFlush = s.finalFlush := rfl
@[simp] theorem State.alignToByte_verified (s : State) : (s.alignToByte).verified = s.verified := rfl
@[simp] theorem State.alignToByte_reject (s : State) : (s.alignToByte).reject = s.reject := rfl
@[simp] theorem State.alignToByte_inWait (s : State) : (s.alignToByte).inWait = s.inWait := rfl
@[simp] theorem State.alignToByte_crcState (s : State) : (s.alignToByte).crcState = s.crcState := rfl
@[simp] theorem State.alignToByte_count (s : State) : (s.alignToByte).count = s.count := rfl
@[simp] theorem State.alignToByte_errCode (s : State) : (s.alignToByte).errCode = s.errCode := rfl
@[simp] theorem State.alignToByte_errDetail (s : State) : (s.alignToByte).errDetail = s.errDetail := rfl
@[simp] theorem State.alignToByte_errTable (s : State) : (s.alignToByte).errTable = s.errTable := rfl
@[simp] theorem State.alignToByte_declCrc (s : State) : (s.alignToByte).declCrc = s.declCrc := rfl
@[simp] theorem State.alignToByte_declLen (s : State) : (s.alignToByte).declLen = s.declLen := rfl
@[simp] theorem State.alignToByte_flushLen (s : State) : (s.alignToByte).flushLen = s.flushLen := rfl
@[simp] theorem State.alignToByte_config (s : State) : (s.alignToByte).config = s.config := rfl
@[simp] theorem State.alignToByte_window (s : State) : (s.alignToByte).window = s.window := rfl
@[simp] theorem State.alignToByte_inq (s : State) : (s.alignToByte).inq = s.inq := rfl
@[simp] theorem State.alignToByte_interm (s : State) : (s.alignToByte).interm = s.interm := rfl
@[simp] theorem State.alignToByte_outlog (s : State) : (s.alignToByte).outlog = s.outlog := rfl
@[simp] theorem State.alignToByte_agenda (s : State) : (s.alignToByte).agenda = s.agenda := rfl
@[simp] theorem State.alignToByte_reply (s : State) : (s.alignToByte).reply = s.reply := rfl
@[simp] theorem State.alignToByte_draws (s : State) : (s.alignToByte).draws = s.draws := rfl

/-! ### `takeCodeBit` -/

@[simp] theorem State.takeCodeBit_core (s : State) :
    (s.takeCodeBit).core =
    { s.core with
      bitbuf := s.core.bitbuf >>> 1, bitcnt := s.core.bitcnt - 1
      hcode := pushBit s.core.hcode (s.core.bitbuf.getLsbD 0), hcnt := s.core.hcnt + 1 } := rfl
@[simp] theorem State.takeCodeBit_state (s : State) : (s.takeCodeBit).state = s.state := rfl
@[simp] theorem State.takeCodeBit_finalFlush (s : State) : (s.takeCodeBit).finalFlush = s.finalFlush := rfl
@[simp] theorem State.takeCodeBit_verified (s : State) : (s.takeCodeBit).verified = s.verified := rfl
@[simp] theorem State.takeCodeBit_reject (s : State) : (s.takeCodeBit).reject = s.reject := rfl
@[simp] theorem State.takeCodeBit_inWait (s : State) : (s.takeCodeBit).inWait = s.inWait := rfl
@[simp] theorem State.takeCodeBit_crcState (s : State) : (s.takeCodeBit).crcState = s.crcState := rfl
@[simp] theorem State.takeCodeBit_count (s : State) : (s.takeCodeBit).count = s.count := rfl
@[simp] theorem State.takeCodeBit_errCode (s : State) : (s.takeCodeBit).errCode = s.errCode := rfl
@[simp] theorem State.takeCodeBit_errDetail (s : State) : (s.takeCodeBit).errDetail = s.errDetail := rfl
@[simp] theorem State.takeCodeBit_errTable (s : State) : (s.takeCodeBit).errTable = s.errTable := rfl
@[simp] theorem State.takeCodeBit_declCrc (s : State) : (s.takeCodeBit).declCrc = s.declCrc := rfl
@[simp] theorem State.takeCodeBit_declLen (s : State) : (s.takeCodeBit).declLen = s.declLen := rfl
@[simp] theorem State.takeCodeBit_flushLen (s : State) : (s.takeCodeBit).flushLen = s.flushLen := rfl
@[simp] theorem State.takeCodeBit_config (s : State) : (s.takeCodeBit).config = s.config := rfl
@[simp] theorem State.takeCodeBit_window (s : State) : (s.takeCodeBit).window = s.window := rfl
@[simp] theorem State.takeCodeBit_inq (s : State) : (s.takeCodeBit).inq = s.inq := rfl
@[simp] theorem State.takeCodeBit_interm (s : State) : (s.takeCodeBit).interm = s.interm := rfl
@[simp] theorem State.takeCodeBit_outlog (s : State) : (s.takeCodeBit).outlog = s.outlog := rfl
@[simp] theorem State.takeCodeBit_agenda (s : State) : (s.takeCodeBit).agenda = s.agenda := rfl
@[simp] theorem State.takeCodeBit_reply (s : State) : (s.takeCodeBit).reply = s.reply := rfl
@[simp] theorem State.takeCodeBit_draws (s : State) : (s.takeCodeBit).draws = s.draws := rfl

/-! ### `clearCode` -/

@[simp] theorem State.clearCode_core (s : State) :
    (s.clearCode).core = { s.core with hcode := 0, hcnt := 0 } := rfl
@[simp] theorem State.clearCode_state (s : State) : (s.clearCode).state = s.state := rfl
@[simp] theorem State.clearCode_finalFlush (s : State) : (s.clearCode).finalFlush = s.finalFlush := rfl
@[simp] theorem State.clearCode_verified (s : State) : (s.clearCode).verified = s.verified := rfl
@[simp] theorem State.clearCode_reject (s : State) : (s.clearCode).reject = s.reject := rfl
@[simp] theorem State.clearCode_inWait (s : State) : (s.clearCode).inWait = s.inWait := rfl
@[simp] theorem State.clearCode_crcState (s : State) : (s.clearCode).crcState = s.crcState := rfl
@[simp] theorem State.clearCode_count (s : State) : (s.clearCode).count = s.count := rfl
@[simp] theorem State.clearCode_errCode (s : State) : (s.clearCode).errCode = s.errCode := rfl
@[simp] theorem State.clearCode_errDetail (s : State) : (s.clearCode).errDetail = s.errDetail := rfl
@[simp] theorem State.clearCode_errTable (s : State) : (s.clearCode).errTable = s.errTable := rfl
@[simp] theorem State.clearCode_declCrc (s : State) : (s.clearCode).declCrc = s.declCrc := rfl
@[simp] theorem State.clearCode_declLen (s : State) : (s.clearCode).declLen = s.declLen := rfl
@[simp] theorem State.clearCode_flushLen (s : State) : (s.clearCode).flushLen = s.flushLen := rfl
@[simp] theorem State.clearCode_config (s : State) : (s.clearCode).config = s.config := rfl
@[simp] theorem State.clearCode_window (s : State) : (s.clearCode).window = s.window := rfl
@[simp] theorem State.clearCode_inq (s : State) : (s.clearCode).inq = s.inq := rfl
@[simp] theorem State.clearCode_interm (s : State) : (s.clearCode).interm = s.interm := rfl
@[simp] theorem State.clearCode_outlog (s : State) : (s.clearCode).outlog = s.outlog := rfl
@[simp] theorem State.clearCode_agenda (s : State) : (s.clearCode).agenda = s.agenda := rfl
@[simp] theorem State.clearCode_reply (s : State) : (s.clearCode).reply = s.reply := rfl
@[simp] theorem State.clearCode_draws (s : State) : (s.clearCode).draws = s.draws := rfl

/-! ### `goto` -/

@[simp] theorem State.goto_core (p : Phase) (s : State) :
    (s.goto p).core = { s.core with phase := p } := rfl
@[simp] theorem State.goto_state (p : Phase) (s : State) : (s.goto p).state = s.state := rfl
@[simp] theorem State.goto_finalFlush (p : Phase) (s : State) : (s.goto p).finalFlush = s.finalFlush := rfl
@[simp] theorem State.goto_verified (p : Phase) (s : State) : (s.goto p).verified = s.verified := rfl
@[simp] theorem State.goto_reject (p : Phase) (s : State) : (s.goto p).reject = s.reject := rfl
@[simp] theorem State.goto_inWait (p : Phase) (s : State) : (s.goto p).inWait = s.inWait := rfl
@[simp] theorem State.goto_crcState (p : Phase) (s : State) : (s.goto p).crcState = s.crcState := rfl
@[simp] theorem State.goto_count (p : Phase) (s : State) : (s.goto p).count = s.count := rfl
@[simp] theorem State.goto_errCode (p : Phase) (s : State) : (s.goto p).errCode = s.errCode := rfl
@[simp] theorem State.goto_errDetail (p : Phase) (s : State) : (s.goto p).errDetail = s.errDetail := rfl
@[simp] theorem State.goto_errTable (p : Phase) (s : State) : (s.goto p).errTable = s.errTable := rfl
@[simp] theorem State.goto_declCrc (p : Phase) (s : State) : (s.goto p).declCrc = s.declCrc := rfl
@[simp] theorem State.goto_declLen (p : Phase) (s : State) : (s.goto p).declLen = s.declLen := rfl
@[simp] theorem State.goto_flushLen (p : Phase) (s : State) : (s.goto p).flushLen = s.flushLen := rfl
@[simp] theorem State.goto_config (p : Phase) (s : State) : (s.goto p).config = s.config := rfl
@[simp] theorem State.goto_window (p : Phase) (s : State) : (s.goto p).window = s.window := rfl
@[simp] theorem State.goto_inq (p : Phase) (s : State) : (s.goto p).inq = s.inq := rfl
@[simp] theorem State.goto_interm (p : Phase) (s : State) : (s.goto p).interm = s.interm := rfl
@[simp] theorem State.goto_outlog (p : Phase) (s : State) : (s.goto p).outlog = s.outlog := rfl
@[simp] theorem State.goto_agenda (p : Phase) (s : State) : (s.goto p).agenda = s.agenda := rfl
@[simp] theorem State.goto_reply (p : Phase) (s : State) : (s.goto p).reply = s.reply := rfl
@[simp] theorem State.goto_draws (p : Phase) (s : State) : (s.goto p).draws = s.draws := rfl

/-! ### `raiseError` -/

@[simp] theorem raiseError_core (e : ErrCode) (d : ErrDetail) (t : ErrTable) (s : State) :
    (raiseError e d t s).core = Config.freeRegs s.draws := rfl
@[simp] theorem raiseError_state (e : ErrCode) (d : ErrDetail) (t : ErrTable) (s : State) :
    (raiseError e d t s).state = .error := rfl
@[simp] theorem raiseError_finalFlush (e : ErrCode) (d : ErrDetail) (t : ErrTable) (s : State) :
    (raiseError e d t s).finalFlush = s.finalFlush := rfl
@[simp] theorem raiseError_verified (e : ErrCode) (d : ErrDetail) (t : ErrTable) (s : State) :
    (raiseError e d t s).verified = s.verified := rfl
@[simp] theorem raiseError_reject (e : ErrCode) (d : ErrDetail) (t : ErrTable) (s : State) :
    (raiseError e d t s).reject = s.reject := rfl
@[simp] theorem raiseError_inWait (e : ErrCode) (d : ErrDetail) (t : ErrTable) (s : State) :
    (raiseError e d t s).inWait = s.inWait := rfl
@[simp] theorem raiseError_crcState (e : ErrCode) (d : ErrDetail) (t : ErrTable) (s : State) :
    (raiseError e d t s).crcState = s.crcState := rfl
@[simp] theorem raiseError_count (e : ErrCode) (d : ErrDetail) (t : ErrTable) (s : State) :
    (raiseError e d t s).count = s.count := rfl
@[simp] theorem raiseError_errCode (e : ErrCode) (d : ErrDetail) (t : ErrTable) (s : State) :
    (raiseError e d t s).errCode = e := rfl
@[simp] theorem raiseError_errDetail (e : ErrCode) (d : ErrDetail) (t : ErrTable) (s : State) :
    (raiseError e d t s).errDetail = d := rfl
@[simp] theorem raiseError_errTable (e : ErrCode) (d : ErrDetail) (t : ErrTable) (s : State) :
    (raiseError e d t s).errTable = t := rfl
@[simp] theorem raiseError_declCrc (e : ErrCode) (d : ErrDetail) (t : ErrTable) (s : State) :
    (raiseError e d t s).declCrc = s.declCrc := rfl
@[simp] theorem raiseError_declLen (e : ErrCode) (d : ErrDetail) (t : ErrTable) (s : State) :
    (raiseError e d t s).declLen = s.declLen := rfl
@[simp] theorem raiseError_flushLen (e : ErrCode) (d : ErrDetail) (t : ErrTable) (s : State) :
    (raiseError e d t s).flushLen = s.flushLen := rfl
@[simp] theorem raiseError_config (e : ErrCode) (d : ErrDetail) (t : ErrTable) (s : State) :
    (raiseError e d t s).config = s.config := rfl
@[simp] theorem raiseError_window (e : ErrCode) (d : ErrDetail) (t : ErrTable) (s : State) :
    (raiseError e d t s).window = s.window := rfl
@[simp] theorem raiseError_inq (e : ErrCode) (d : ErrDetail) (t : ErrTable) (s : State) :
    (raiseError e d t s).inq = s.inq := rfl
@[simp] theorem raiseError_interm (e : ErrCode) (d : ErrDetail) (t : ErrTable) (s : State) :
    (raiseError e d t s).interm = s.interm := rfl
@[simp] theorem raiseError_outlog (e : ErrCode) (d : ErrDetail) (t : ErrTable) (s : State) :
    (raiseError e d t s).outlog = s.outlog := rfl
@[simp] theorem raiseError_agenda (e : ErrCode) (d : ErrDetail) (t : ErrTable) (s : State) :
    (raiseError e d t s).agenda = s.agenda := rfl
@[simp] theorem raiseError_reply (e : ErrCode) (d : ErrDetail) (t : ErrTable) (s : State) :
    (raiseError e d t s).reply = s.reply := rfl
@[simp] theorem raiseError_draws (e : ErrCode) (d : ErrDetail) (t : ErrTable) (s : State) :
    (raiseError e d t s).draws = s.draws.next := rfl

/-! ### `flush` -/

@[simp] theorem flush_core (final : Bool) (s : State) :
    (flush final s).core = s.core := rfl
@[simp] theorem flush_state (final : Bool) (s : State) : (flush final s).state = .flush := rfl
@[simp] theorem flush_finalFlush (final : Bool) (s : State) : (flush final s).finalFlush = final := rfl
@[simp] theorem flush_verified (final : Bool) (s : State) : (flush final s).verified = s.verified := rfl
@[simp] theorem flush_reject (final : Bool) (s : State) : (flush final s).reject = s.reject := rfl
@[simp] theorem flush_inWait (final : Bool) (s : State) : (flush final s).inWait = s.inWait := rfl
@[simp] theorem flush_crcState (final : Bool) (s : State) :
    (flush final s).crcState = crcOver s.crcState s.flushBytes := rfl
@[simp] theorem flush_count (final : Bool) (s : State) : (flush final s).count = s.count + s.core.w.setWidth 32 := rfl
@[simp] theorem flush_errCode (final : Bool) (s : State) : (flush final s).errCode = s.errCode := rfl
@[simp] theorem flush_errDetail (final : Bool) (s : State) : (flush final s).errDetail = s.errDetail := rfl
@[simp] theorem flush_errTable (final : Bool) (s : State) : (flush final s).errTable = s.errTable := rfl
@[simp] theorem flush_declCrc (final : Bool) (s : State) : (flush final s).declCrc = s.declCrc := rfl
@[simp] theorem flush_declLen (final : Bool) (s : State) : (flush final s).declLen = s.declLen := rfl
@[simp] theorem flush_flushLen (final : Bool) (s : State) : (flush final s).flushLen = s.core.w := rfl
@[simp] theorem flush_config (final : Bool) (s : State) : (flush final s).config = s.config := rfl
@[simp] theorem flush_window (final : Bool) (s : State) : (flush final s).window = s.window := rfl
@[simp] theorem flush_inq (final : Bool) (s : State) : (flush final s).inq = s.inq := rfl
@[simp] theorem flush_interm (final : Bool) (s : State) : (flush final s).interm = s.interm := rfl
@[simp] theorem flush_outlog (final : Bool) (s : State) :
    (flush final s).outlog = s.outlog ++ [{ bytes := s.flushBytes, final := final }] := rfl
@[simp] theorem flush_agenda (final : Bool) (s : State) : (flush final s).agenda = s.agenda := rfl
@[simp] theorem flush_reply (final : Bool) (s : State) : (flush final s).reply = s.reply := rfl
@[simp] theorem flush_draws (final : Bool) (s : State) : (flush final s).draws = s.draws := rfl

/-! ### `putByte` -/

@[simp] theorem State.putByte_core (b : Byte) (s : State) :
    (s.putByte b).core = { s.core with w := s.core.w + 1, haveCount := haveNext s.core.haveCount } := rfl
@[simp] theorem State.putByte_state (b : Byte) (s : State) : (s.putByte b).state = s.state := rfl
@[simp] theorem State.putByte_finalFlush (b : Byte) (s : State) : (s.putByte b).finalFlush = s.finalFlush := rfl
@[simp] theorem State.putByte_verified (b : Byte) (s : State) : (s.putByte b).verified = s.verified := rfl
@[simp] theorem State.putByte_reject (b : Byte) (s : State) : (s.putByte b).reject = s.reject := rfl
@[simp] theorem State.putByte_inWait (b : Byte) (s : State) : (s.putByte b).inWait = s.inWait := rfl
@[simp] theorem State.putByte_crcState (b : Byte) (s : State) : (s.putByte b).crcState = s.crcState := rfl
@[simp] theorem State.putByte_count (b : Byte) (s : State) : (s.putByte b).count = s.count := rfl
@[simp] theorem State.putByte_errCode (b : Byte) (s : State) : (s.putByte b).errCode = s.errCode := rfl
@[simp] theorem State.putByte_errDetail (b : Byte) (s : State) : (s.putByte b).errDetail = s.errDetail := rfl
@[simp] theorem State.putByte_errTable (b : Byte) (s : State) : (s.putByte b).errTable = s.errTable := rfl
@[simp] theorem State.putByte_declCrc (b : Byte) (s : State) : (s.putByte b).declCrc = s.declCrc := rfl
@[simp] theorem State.putByte_declLen (b : Byte) (s : State) : (s.putByte b).declLen = s.declLen := rfl
@[simp] theorem State.putByte_flushLen (b : Byte) (s : State) : (s.putByte b).flushLen = s.flushLen := rfl
@[simp] theorem State.putByte_config (b : Byte) (s : State) : (s.putByte b).config = s.config := rfl
@[simp] theorem State.putByte_window (b : Byte) (s : State) :
    (s.putByte b).window = s.window.write s.core.w.toNat b := rfl
@[simp] theorem State.putByte_inq (b : Byte) (s : State) : (s.putByte b).inq = s.inq := rfl
@[simp] theorem State.putByte_interm (b : Byte) (s : State) : (s.putByte b).interm = s.interm := rfl
@[simp] theorem State.putByte_outlog (b : Byte) (s : State) : (s.putByte b).outlog = s.outlog := rfl
@[simp] theorem State.putByte_agenda (b : Byte) (s : State) : (s.putByte b).agenda = s.agenda := rfl
@[simp] theorem State.putByte_reply (b : Byte) (s : State) : (s.putByte b).reply = s.reply := rfl
@[simp] theorem State.putByte_draws (b : Byte) (s : State) : (s.putByte b).draws = s.draws := rfl

/-! ### `endOfBlock` -/

@[simp] theorem State.endOfBlock_core (s : State) :
    (s.endOfBlock).core = { s.core with phase := if s.core.bfinal then .fEnd else .hBfinal } := rfl
@[simp] theorem State.endOfBlock_state (s : State) : (s.endOfBlock).state = s.state := rfl
@[simp] theorem State.endOfBlock_finalFlush (s : State) : (s.endOfBlock).finalFlush = s.finalFlush := rfl
@[simp] theorem State.endOfBlock_verified (s : State) : (s.endOfBlock).verified = s.verified := rfl
@[simp] theorem State.endOfBlock_reject (s : State) : (s.endOfBlock).reject = s.reject := rfl
@[simp] theorem State.endOfBlock_inWait (s : State) : (s.endOfBlock).inWait = s.inWait := rfl
@[simp] theorem State.endOfBlock_crcState (s : State) : (s.endOfBlock).crcState = s.crcState := rfl
@[simp] theorem State.endOfBlock_count (s : State) : (s.endOfBlock).count = s.count := rfl
@[simp] theorem State.endOfBlock_errCode (s : State) : (s.endOfBlock).errCode = s.errCode := rfl
@[simp] theorem State.endOfBlock_errDetail (s : State) : (s.endOfBlock).errDetail = s.errDetail := rfl
@[simp] theorem State.endOfBlock_errTable (s : State) : (s.endOfBlock).errTable = s.errTable := rfl
@[simp] theorem State.endOfBlock_declCrc (s : State) : (s.endOfBlock).declCrc = s.declCrc := rfl
@[simp] theorem State.endOfBlock_declLen (s : State) : (s.endOfBlock).declLen = s.declLen := rfl
@[simp] theorem State.endOfBlock_flushLen (s : State) : (s.endOfBlock).flushLen = s.flushLen := rfl
@[simp] theorem State.endOfBlock_config (s : State) : (s.endOfBlock).config = s.config := rfl
@[simp] theorem State.endOfBlock_window (s : State) : (s.endOfBlock).window = s.window := rfl
@[simp] theorem State.endOfBlock_inq (s : State) : (s.endOfBlock).inq = s.inq := rfl
@[simp] theorem State.endOfBlock_interm (s : State) : (s.endOfBlock).interm = s.interm := rfl
@[simp] theorem State.endOfBlock_outlog (s : State) : (s.endOfBlock).outlog = s.outlog := rfl
@[simp] theorem State.endOfBlock_agenda (s : State) : (s.endOfBlock).agenda = s.agenda := rfl
@[simp] theorem State.endOfBlock_reply (s : State) : (s.endOfBlock).reply = s.reply := rfl
@[simp] theorem State.endOfBlock_draws (s : State) : (s.endOfBlock).draws = s.draws := rfl

/-! ### `rejected` -/

@[simp] theorem State.rejected_core (s : State) :
    (s.rejected).core = s.core := rfl
@[simp] theorem State.rejected_state (s : State) : (s.rejected).state = s.state := rfl
@[simp] theorem State.rejected_finalFlush (s : State) : (s.rejected).finalFlush = s.finalFlush := rfl
@[simp] theorem State.rejected_verified (s : State) : (s.rejected).verified = s.verified := rfl
@[simp] theorem State.rejected_reject (s : State) : (s.rejected).reject = true := rfl
@[simp] theorem State.rejected_inWait (s : State) : (s.rejected).inWait = s.inWait := rfl
@[simp] theorem State.rejected_crcState (s : State) : (s.rejected).crcState = s.crcState := rfl
@[simp] theorem State.rejected_count (s : State) : (s.rejected).count = s.count := rfl
@[simp] theorem State.rejected_errCode (s : State) : (s.rejected).errCode = s.errCode := rfl
@[simp] theorem State.rejected_errDetail (s : State) : (s.rejected).errDetail = s.errDetail := rfl
@[simp] theorem State.rejected_errTable (s : State) : (s.rejected).errTable = s.errTable := rfl
@[simp] theorem State.rejected_declCrc (s : State) : (s.rejected).declCrc = s.declCrc := rfl
@[simp] theorem State.rejected_declLen (s : State) : (s.rejected).declLen = s.declLen := rfl
@[simp] theorem State.rejected_flushLen (s : State) : (s.rejected).flushLen = s.flushLen := rfl
@[simp] theorem State.rejected_config (s : State) : (s.rejected).config = s.config := rfl
@[simp] theorem State.rejected_window (s : State) : (s.rejected).window = s.window := rfl
@[simp] theorem State.rejected_inq (s : State) : (s.rejected).inq = s.inq := rfl
@[simp] theorem State.rejected_interm (s : State) : (s.rejected).interm = s.interm := rfl
@[simp] theorem State.rejected_outlog (s : State) : (s.rejected).outlog = s.outlog := rfl
@[simp] theorem State.rejected_agenda (s : State) : (s.rejected).agenda = s.agenda := rfl
@[simp] theorem State.rejected_reply (s : State) : (s.rejected).reply = s.reply := rfl
@[simp] theorem State.rejected_draws (s : State) : (s.rejected).draws = s.draws := rfl

/-! ### `accepted` -/

@[simp] theorem State.accepted_core (s : State) :
    (s.accepted).core = s.core := rfl
@[simp] theorem State.accepted_state (s : State) : (s.accepted).state = s.state := rfl
@[simp] theorem State.accepted_finalFlush (s : State) : (s.accepted).finalFlush = s.finalFlush := rfl
@[simp] theorem State.accepted_verified (s : State) : (s.accepted).verified = s.verified := rfl
@[simp] theorem State.accepted_reject (s : State) : (s.accepted).reject = false := rfl
@[simp] theorem State.accepted_inWait (s : State) : (s.accepted).inWait = s.inWait := rfl
@[simp] theorem State.accepted_crcState (s : State) : (s.accepted).crcState = s.crcState := rfl
@[simp] theorem State.accepted_count (s : State) : (s.accepted).count = s.count := rfl
@[simp] theorem State.accepted_errCode (s : State) : (s.accepted).errCode = s.errCode := rfl
@[simp] theorem State.accepted_errDetail (s : State) : (s.accepted).errDetail = s.errDetail := rfl
@[simp] theorem State.accepted_errTable (s : State) : (s.accepted).errTable = s.errTable := rfl
@[simp] theorem State.accepted_declCrc (s : State) : (s.accepted).declCrc = s.declCrc := rfl
@[simp] theorem State.accepted_declLen (s : State) : (s.accepted).declLen = s.declLen := rfl
@[simp] theorem State.accepted_flushLen (s : State) : (s.accepted).flushLen = s.flushLen := rfl
@[simp] theorem State.accepted_config (s : State) : (s.accepted).config = s.config := rfl
@[simp] theorem State.accepted_window (s : State) : (s.accepted).window = s.window := rfl
@[simp] theorem State.accepted_inq (s : State) : (s.accepted).inq = s.inq := rfl
@[simp] theorem State.accepted_interm (s : State) : (s.accepted).interm = s.interm := rfl
@[simp] theorem State.accepted_outlog (s : State) : (s.accepted).outlog = s.outlog := rfl
@[simp] theorem State.accepted_agenda (s : State) : (s.accepted).agenda = s.agenda := rfl
@[simp] theorem State.accepted_reply (s : State) : (s.accepted).reply = s.reply := rfl
@[simp] theorem State.accepted_draws (s : State) : (s.accepted).draws = s.draws := rfl

/-! ### `setHeader` -/

@[simp] theorem State.setHeader_core (f : Bool) (k : BitVec 2) (s : State) :
    (s.setHeader f k).core = { s.core with bfinal := f, btype := k } := rfl
@[simp] theorem State.setHeader_state (f : Bool) (k : BitVec 2) (s : State) : (s.setHeader f k).state = s.state := rfl
@[simp] theorem State.setHeader_finalFlush (f : Bool) (k : BitVec 2) (s : State) :
    (s.setHeader f k).finalFlush = s.finalFlush := rfl
@[simp] theorem State.setHeader_verified (f : Bool) (k : BitVec 2) (s : State) :
    (s.setHeader f k).verified = s.verified := rfl
@[simp] theorem State.setHeader_reject (f : Bool) (k : BitVec 2) (s : State) :
    (s.setHeader f k).reject = s.reject := rfl
@[simp] theorem State.setHeader_inWait (f : Bool) (k : BitVec 2) (s : State) :
    (s.setHeader f k).inWait = s.inWait := rfl
@[simp] theorem State.setHeader_crcState (f : Bool) (k : BitVec 2) (s : State) :
    (s.setHeader f k).crcState = s.crcState := rfl
@[simp] theorem State.setHeader_count (f : Bool) (k : BitVec 2) (s : State) : (s.setHeader f k).count = s.count := rfl
@[simp] theorem State.setHeader_errCode (f : Bool) (k : BitVec 2) (s : State) :
    (s.setHeader f k).errCode = s.errCode := rfl
@[simp] theorem State.setHeader_errDetail (f : Bool) (k : BitVec 2) (s : State) :
    (s.setHeader f k).errDetail = s.errDetail := rfl
@[simp] theorem State.setHeader_errTable (f : Bool) (k : BitVec 2) (s : State) :
    (s.setHeader f k).errTable = s.errTable := rfl
@[simp] theorem State.setHeader_declCrc (f : Bool) (k : BitVec 2) (s : State) :
    (s.setHeader f k).declCrc = s.declCrc := rfl
@[simp] theorem State.setHeader_declLen (f : Bool) (k : BitVec 2) (s : State) :
    (s.setHeader f k).declLen = s.declLen := rfl
@[simp] theorem State.setHeader_flushLen (f : Bool) (k : BitVec 2) (s : State) :
    (s.setHeader f k).flushLen = s.flushLen := rfl
@[simp] theorem State.setHeader_config (f : Bool) (k : BitVec 2) (s : State) :
    (s.setHeader f k).config = s.config := rfl
@[simp] theorem State.setHeader_window (f : Bool) (k : BitVec 2) (s : State) :
    (s.setHeader f k).window = s.window := rfl
@[simp] theorem State.setHeader_inq (f : Bool) (k : BitVec 2) (s : State) : (s.setHeader f k).inq = s.inq := rfl
@[simp] theorem State.setHeader_interm (f : Bool) (k : BitVec 2) (s : State) :
    (s.setHeader f k).interm = s.interm := rfl
@[simp] theorem State.setHeader_outlog (f : Bool) (k : BitVec 2) (s : State) :
    (s.setHeader f k).outlog = s.outlog := rfl
@[simp] theorem State.setHeader_agenda (f : Bool) (k : BitVec 2) (s : State) :
    (s.setHeader f k).agenda = s.agenda := rfl
@[simp] theorem State.setHeader_reply (f : Bool) (k : BitVec 2) (s : State) : (s.setHeader f k).reply = s.reply := rfl
@[simp] theorem State.setHeader_draws (f : Bool) (k : BitVec 2) (s : State) : (s.setHeader f k).draws = s.draws := rfl

/-! ### `beginRepeat` -/

@[simp] theorem State.beginRepeat_core (r : BitVec 5) (s : State) :
    (s.beginRepeat r).core = { s.core with rsym := r, phase := .dRepeat } := rfl
@[simp] theorem State.beginRepeat_state (r : BitVec 5) (s : State) : (s.beginRepeat r).state = s.state := rfl
@[simp] theorem State.beginRepeat_finalFlush (r : BitVec 5) (s : State) :
    (s.beginRepeat r).finalFlush = s.finalFlush := rfl
@[simp] theorem State.beginRepeat_verified (r : BitVec 5) (s : State) : (s.beginRepeat r).verified = s.verified := rfl
@[simp] theorem State.beginRepeat_reject (r : BitVec 5) (s : State) : (s.beginRepeat r).reject = s.reject := rfl
@[simp] theorem State.beginRepeat_inWait (r : BitVec 5) (s : State) : (s.beginRepeat r).inWait = s.inWait := rfl
@[simp] theorem State.beginRepeat_crcState (r : BitVec 5) (s : State) : (s.beginRepeat r).crcState = s.crcState := rfl
@[simp] theorem State.beginRepeat_count (r : BitVec 5) (s : State) : (s.beginRepeat r).count = s.count := rfl
@[simp] theorem State.beginRepeat_errCode (r : BitVec 5) (s : State) : (s.beginRepeat r).errCode = s.errCode := rfl
@[simp] theorem State.beginRepeat_errDetail (r : BitVec 5) (s : State) :
    (s.beginRepeat r).errDetail = s.errDetail := rfl
@[simp] theorem State.beginRepeat_errTable (r : BitVec 5) (s : State) : (s.beginRepeat r).errTable = s.errTable := rfl
@[simp] theorem State.beginRepeat_declCrc (r : BitVec 5) (s : State) : (s.beginRepeat r).declCrc = s.declCrc := rfl
@[simp] theorem State.beginRepeat_declLen (r : BitVec 5) (s : State) : (s.beginRepeat r).declLen = s.declLen := rfl
@[simp] theorem State.beginRepeat_flushLen (r : BitVec 5) (s : State) : (s.beginRepeat r).flushLen = s.flushLen := rfl
@[simp] theorem State.beginRepeat_config (r : BitVec 5) (s : State) : (s.beginRepeat r).config = s.config := rfl
@[simp] theorem State.beginRepeat_window (r : BitVec 5) (s : State) : (s.beginRepeat r).window = s.window := rfl
@[simp] theorem State.beginRepeat_inq (r : BitVec 5) (s : State) : (s.beginRepeat r).inq = s.inq := rfl
@[simp] theorem State.beginRepeat_interm (r : BitVec 5) (s : State) : (s.beginRepeat r).interm = s.interm := rfl
@[simp] theorem State.beginRepeat_outlog (r : BitVec 5) (s : State) : (s.beginRepeat r).outlog = s.outlog := rfl
@[simp] theorem State.beginRepeat_agenda (r : BitVec 5) (s : State) : (s.beginRepeat r).agenda = s.agenda := rfl
@[simp] theorem State.beginRepeat_reply (r : BitVec 5) (s : State) : (s.beginRepeat r).reply = s.reply := rfl
@[simp] theorem State.beginRepeat_draws (r : BitVec 5) (s : State) : (s.beginRepeat r).draws = s.draws := rfl

/-! ### `fetchByte` -/

@[simp] theorem fetchByte_core (b : Byte) (rest : List Byte) (s : State) :
    (fetchByte b rest s).core =
    { s.core with
      bitbuf := s.core.bitbuf ||| (b.setWidth 64 <<< s.core.bitcnt.toNat)
      bitcnt := s.core.bitcnt + 8, inBytesTotal := s.core.inBytesTotal + 1 } := rfl
@[simp] theorem fetchByte_state (b : Byte) (rest : List Byte) (s : State) :
    (fetchByte b rest s).state = s.state := rfl
@[simp] theorem fetchByte_finalFlush (b : Byte) (rest : List Byte) (s : State) :
    (fetchByte b rest s).finalFlush = s.finalFlush := rfl
@[simp] theorem fetchByte_verified (b : Byte) (rest : List Byte) (s : State) :
    (fetchByte b rest s).verified = s.verified := rfl
@[simp] theorem fetchByte_reject (b : Byte) (rest : List Byte) (s : State) :
    (fetchByte b rest s).reject = s.reject := rfl
@[simp] theorem fetchByte_inWait (b : Byte) (rest : List Byte) (s : State) :
    (fetchByte b rest s).inWait = false := rfl
@[simp] theorem fetchByte_crcState (b : Byte) (rest : List Byte) (s : State) :
    (fetchByte b rest s).crcState = s.crcState := rfl
@[simp] theorem fetchByte_count (b : Byte) (rest : List Byte) (s : State) :
    (fetchByte b rest s).count = s.count := rfl
@[simp] theorem fetchByte_errCode (b : Byte) (rest : List Byte) (s : State) :
    (fetchByte b rest s).errCode = s.errCode := rfl
@[simp] theorem fetchByte_errDetail (b : Byte) (rest : List Byte) (s : State) :
    (fetchByte b rest s).errDetail = s.errDetail := rfl
@[simp] theorem fetchByte_errTable (b : Byte) (rest : List Byte) (s : State) :
    (fetchByte b rest s).errTable = s.errTable := rfl
@[simp] theorem fetchByte_declCrc (b : Byte) (rest : List Byte) (s : State) :
    (fetchByte b rest s).declCrc = s.declCrc := rfl
@[simp] theorem fetchByte_declLen (b : Byte) (rest : List Byte) (s : State) :
    (fetchByte b rest s).declLen = s.declLen := rfl
@[simp] theorem fetchByte_flushLen (b : Byte) (rest : List Byte) (s : State) :
    (fetchByte b rest s).flushLen = s.flushLen := rfl
@[simp] theorem fetchByte_config (b : Byte) (rest : List Byte) (s : State) :
    (fetchByte b rest s).config = s.config := rfl
@[simp] theorem fetchByte_window (b : Byte) (rest : List Byte) (s : State) :
    (fetchByte b rest s).window = s.window := rfl
@[simp] theorem fetchByte_inq (b : Byte) (rest : List Byte) (s : State) : (fetchByte b rest s).inq = rest := rfl
@[simp] theorem fetchByte_interm (b : Byte) (rest : List Byte) (s : State) :
    (fetchByte b rest s).interm = s.interm := rfl
@[simp] theorem fetchByte_outlog (b : Byte) (rest : List Byte) (s : State) :
    (fetchByte b rest s).outlog = s.outlog := rfl
@[simp] theorem fetchByte_agenda (b : Byte) (rest : List Byte) (s : State) :
    (fetchByte b rest s).agenda = s.agenda := rfl
@[simp] theorem fetchByte_reply (b : Byte) (rest : List Byte) (s : State) :
    (fetchByte b rest s).reply = s.reply := rfl
@[simp] theorem fetchByte_draws (b : Byte) (rest : List Byte) (s : State) :
    (fetchByte b rest s).draws = s.draws := rfl

end Sys2Proof.Machine
end

