-- ==== Sys2Proof/Laws/Ops.lean ====
section
/-! SUPPORT. What each shared operation can do, said once: the cases of `windowWrite`, `compareTrailer`, `storeLengths`,
`repeatLengths`, `buildDynamic`, `needMoreBits`, and of a core step and a step. -/

namespace Sys2Proof.Machine

/-! ## The window -/

theorem windowWrite_next {s : State} (b : Byte) (h : s.core.w.toNat < Config.windowSize) :
    windowWrite b s = .next (s.afterWrite b) := if_pos h

/-- `WindowWrite` goes on where `W` is an index of the window, and faults otherwise. -/
theorem windowWrite_cases (b : Byte) (s : State) :
    (s.core.w.toNat < Config.windowSize ∧ windowWrite b s = .next (s.afterWrite b)) ∨
    (Config.windowSize ≤ s.core.w.toNat ∧ windowWrite b s = .fault .windowIndex) := by
  rcases Nat.lt_or_ge s.core.w.toNat Config.windowSize with h | h
  · exact .inl ⟨h, windowWrite_next b h⟩
  · exact .inr ⟨h, if_neg (Nat.not_lt.2 h)⟩

/-- A write that does not fill the window, and one that does. -/
theorem afterWrite_cases (b : Byte) (s : State) :
    (s.core.w.toNat + 1 ≠ Config.windowSize ∧ s.afterWrite b = s.putByte b) ∨
    (s.core.w.toNat + 1 = Config.windowSize ∧ s.afterWrite b = flush false (s.putByte b)) := by
  by_cases h : s.core.w.toNat + 1 = Config.windowSize
  · exact .inr ⟨h, if_pos h⟩
  · exact .inl ⟨h, if_neg h⟩

@[simp] theorem afterWrite_core (b : Byte) (s : State) : (s.afterWrite b).core = (s.putByte b).core := by
  rcases afterWrite_cases b s with ⟨-, h⟩ | ⟨-, h⟩ <;> simp [h]

@[simp] theorem afterWrite_window (b : Byte) (s : State) :
    (s.afterWrite b).window = s.window.write s.core.w.toNat b := by
  rcases afterWrite_cases b s with ⟨-, h⟩ | ⟨-, h⟩ <;> simp [h]

@[simp] theorem afterWrite_config (b : Byte) (s : State) : (s.afterWrite b).config = s.config := by
  rcases afterWrite_cases b s with ⟨-, h⟩ | ⟨-, h⟩ <;> simp [h]

@[simp] theorem afterWrite_inq (b : Byte) (s : State) : (s.afterWrite b).inq = s.inq := by
  rcases afterWrite_cases b s with ⟨-, h⟩ | ⟨-, h⟩ <;> simp [h]

@[simp] theorem afterWrite_interm (b : Byte) (s : State) : (s.afterWrite b).interm = s.interm := by
  rcases afterWrite_cases b s with ⟨-, h⟩ | ⟨-, h⟩ <;> simp [h]

@[simp] theorem afterWrite_inWait (b : Byte) (s : State) : (s.afterWrite b).inWait = s.inWait := by
  rcases afterWrite_cases b s with ⟨-, h⟩ | ⟨-, h⟩ <;> simp [h]

@[simp] theorem length_flushBytes (s : State) : s.flushBytes.length = s.core.w.toNat := by
  simp [State.flushBytes]

theorem getElem?_flushBytes {s : State} {i : Nat} {b : Byte} (hi : i < s.core.w.toNat)
    (h : s.window.read i = some b) : s.flushBytes[i]? = some b := by
  simp [State.flushBytes, hi, State.cell, h]

/-- A read cell is the byte it holds, and makes no free draw. -/
theorem cell_of_read {s : State} {i : Nat} {b : Byte} (h : s.window.read i = some b) :
    s.cell i = b ∧ s.cellDraws i = s.draws := by simp [State.cell, State.cellDraws, h]

/-! ## Trailer, lengths, builds -/

/-- `CHECK`'s comparison: the CRC first, then the length, then success (spec/44_window_crc.md R269). -/
theorem compareTrailer_cases (s : State) :
    (s.crcWord ≠ s.declCrc ∧ s.compareTrailer = raiseError .crcMismatch .trailerCrc .none s) ∨
    (s.crcWord = s.declCrc ∧ s.count ≠ s.declLen ∧
      s.compareTrailer = raiseError .lengthMismatch .trailerLen .none s) ∨
    (s.crcWord = s.declCrc ∧ s.count = s.declLen ∧ s.compareTrailer = { s with verified := true }) := by
  unfold State.compareTrailer
  by_cases h1 : s.crcWord = s.declCrc
  · by_cases h2 : s.count = s.declLen
    · exact .inr (.inr ⟨h1, h2, by rw [if_neg (not_not.2 h1), if_neg (not_not.2 h2)]⟩)
    · exact .inr (.inl ⟨h1, h2, by rw [if_neg (not_not.2 h1), if_pos h2]⟩)
  · exact .inl ⟨h1, if_pos h1⟩

/-- The lengths after `r` of them are stored: the stored cells hold `v`, the others are as before. -/
theorem getElem?_fillLens (lens : Vector (BitVec 4) 316) (start : Nat) (v : BitVec 4) (r i : Nat)
    (h : start + r ≤ 316) :
    (fillLens lens start v r)[i]? = if start ≤ i ∧ i < start + r then some v else lens[i]? := by
  induction r with
  | zero => simp only [fillLens]; rw [if_neg (by omega)]
  | succ r ih =>
    simp only [fillLens]
    by_cases hi : start + r = i
    · subst hi
      rw [if_pos (by omega)]
      simp [show start + r < 316 by omega]
    · have : ((fillLens lens start v r).setIfInBounds (start + r) v)[i]? = (fillLens lens start v r)[i]? := by
        simp [hi]
      rw [this, ih (by omega)]
      by_cases hc : start ≤ i ∧ i < start + r
      · rw [if_pos hc, if_pos (by omega)]
      · rw [if_neg hc, if_neg (by omega)]

/-- Lengths are stored where they fit in `LENS`; past its end it is a fault (spec/42_block.md R166, R170). -/
theorem storeLengths_cases (r : Nat) (v : BitVec 4) (s : State) :
    (s.core.lidx.toNat + r ≤ 316 ∧ ∃ t, storeLengths r v s = .next t ∧ s.StoresLengths r v t) ∨
    (316 < s.core.lidx.toNat + r ∧ storeLengths r v s = .fault .lengthIndex) := by
  unfold storeLengths
  by_cases h : s.core.lidx.toNat + r ≤ 316
  · refine .inl ⟨h, _, if_pos h, ?_, ?_, rfl, ?_, ?_, rfl⟩
    · intro i h1 h2
      show (fillLens s.core.lens s.core.lidx.toNat v r)[i]? = some v
      rw [getElem?_fillLens _ _ _ _ _ h, if_pos ⟨h1, h2⟩]
    · intro i hi
      show (fillLens s.core.lens s.core.lidx.toNat v r)[i]? = s.core.lens[i]?
      rw [getElem?_fillLens _ _ _ _ _ h, if_neg (by omega)]
    · intro he; exact ⟨if_pos he, if_pos he, if_pos he⟩
    · intro he; exact ⟨if_neg he, if_neg he, if_neg he⟩
  · exact .inr ⟨by omega, if_neg h⟩

/-- A repeat past `HLIT + HDIST` raises; one within it stores its lengths (spec/42_block.md R170). -/
theorem repeatLengths_cases (r : Nat) (v : BitVec 4) (s : State) :
    (s.lengthTotal < s.core.lidx.toNat + r ∧
      repeatLengths r v s = .next (raiseError .badHuffmanTable .repeatOverflow .codeLength s)) ∨
    (s.core.lidx.toNat + r ≤ s.lengthTotal ∧ repeatLengths r v s = storeLengths r v s) := by
  unfold repeatLengths
  by_cases h : s.lengthTotal < s.core.lidx.toNat + r
  · exact .inl ⟨h, if_pos h⟩
  · exact .inr ⟨by omega, if_neg h⟩

/-- A dynamic build gives the table of its lengths, raises what the acceptance policy says, or runs out of memory
(spec/41_huffman.md R124, R128). -/
theorem buildDynamic_cases (a : Alphabet) (lens : List Nat) (s : State) :
    buildDynamic a lens s = .ok (buildTable lens) ∨
    (tableStatus lens = .oversub ∧ buildDynamic a lens s = .error (.badHuffmanTable, .oversub)) ∨
    (tableStatus lens = .incomplete ∧ buildDynamic a lens s = .error (.badHuffmanTable, .incomplete)) ∨
    (s.config.oomPossible = true ∧ buildDynamic a lens s = .error (.outOfMemory, .oom)) := by
  unfold buildDynamic
  cases hf : buildFault a s.config lens (tableStatus lens) with
  | none =>
    dsimp only
    by_cases h : (s.config.oomPossible && Config.freeOom s.draws a.errTable) = true
    · rw [if_pos h]
      exact .inr (.inr (.inr ⟨(Bool.and_eq_true _ _ ▸ h).1, rfl⟩))
    · exact .inl (if_neg h)
  | some d =>
    cases hst : tableStatus lens <;> simp only [hst, buildFault, reduceCtorEq] at hf
    · split_ifs at hf
      exact .inr (.inr (.inl ⟨rfl, by rw [← Option.some.inj hf]⟩))
    · exact .inr (.inl ⟨rfl, by rw [← Option.some.inj hf]⟩)

/-! ## Steps -/

/-- What a core step does where bits are missing (spec/40_bitreader.md R100, R103 to R105). -/
theorem needMoreBits_cases (s : State) :
    (∃ b rest, s.inq = b :: rest ∧ needMoreBits s = fetchByte b rest s) ∨
    (s.inq = [] ∧ s.interm = .eof ∧
      needMoreBits s = raiseError .truncatedInput .eof .none { s with inWait := false }) ∨
    (s.inq = [] ∧ s.interm = .ioErr ∧ needMoreBits s = raiseError .ioError .io .none { s with inWait := false }) ∨
    (s.inq = [] ∧ s.interm = .none ∧ needMoreBits s = { s with inWait := true }) := by
  unfold needMoreBits
  cases hq : s.inq with
  | cons b rest => exact .inl ⟨b, rest, rfl, rfl⟩
  | nil =>
    cases hi : s.interm with
    | eof => exact .inr (.inl ⟨rfl, rfl, rfl⟩)
    | ioErr => exact .inr (.inr (.inl ⟨rfl, rfl, rfl⟩))
    | none => exact .inr (.inr (.inr ⟨rfl, rfl, rfl⟩))

theorem coreStep_idle {s : State} (h : s.state ≠ .busy) : coreStep s = .next s := if_neg h

theorem coreStep_wait {s : State} (h : s.state = .busy) (hb : s.prepared.core.bitcnt.toNat < s.prepared.needed) :
    coreStep s = .next (needMoreBits s.prepared) := by
  rw [coreStep, if_pos h, if_pos hb]

theorem coreStep_act {s : State} (h : s.state = .busy) (hb : s.prepared.needed ≤ s.prepared.core.bitcnt.toNat) :
    coreStep s = coreAction { s.prepared with inWait := false } := by
  rw [coreStep, if_pos h, if_neg (by omega)]

theorem prepared_of_ne {s : State} (h : s.core.phase ≠ .cRdbyte) : s.prepared = s := if_neg h

/-- The cases of a core step: none while not BUSY, a wait for bits, an action. -/
theorem coreStep_cases (s : State) :
    (s.state ≠ .busy ∧ coreStep s = .next s) ∨
    (s.state = .busy ∧ s.prepared.core.bitcnt.toNat < s.prepared.needed ∧
      coreStep s = .next (needMoreBits s.prepared)) ∨
    (s.state = .busy ∧ s.prepared.needed ≤ s.prepared.core.bitcnt.toNat ∧
      coreStep s = coreAction { s.prepared with inWait := false }) := by
  by_cases h : s.state = .busy
  · rcases Nat.lt_or_ge s.prepared.core.bitcnt.toNat s.prepared.needed with hb | hb
    · exact .inr (.inl ⟨h, hb, coreStep_wait h hb⟩)
    · exact .inr (.inr ⟨h, hb, coreStep_act h hb⟩)
  · exact .inl ⟨h, coreStep_idle h⟩

/-- The cases of a core action: the engine's, an instruction's meaning, one more code bit, or a raise of the decode. -/
theorem coreAction_cases (s : State) :
    (State.ctx s = none ∧ coreAction s = .next (engineAction s)) ∨
    ∃ c, State.ctx s = some c ∧
      ((∃ i k, decode c s.instrBits = .ok (i, k) ∧ coreAction s = exec i s.consumed) ∨
       (∃ n, decode c s.instrBits = .error (.needBits n) ∧ coreAction s = .next s.consumed) ∨
       (∃ t, decode c s.instrBits = .error (.emptyTable t) ∧
          coreAction s = .next (raiseError .badHuffmanTable .emptyTable t s)) ∨
       (∃ t, decode c s.instrBits = .error (.invalidCode t) ∧
          coreAction s = .next (raiseError .badHuffmanTable .invalidCode t s)) ∨
       (decode c s.instrBits = .error .outsideAlphabet ∧ coreAction s = .fault .operandRange)) := by
  unfold coreAction
  cases hc : State.ctx s with
  | none => exact .inl ⟨rfl, rfl⟩
  | some c =>
    refine .inr ⟨c, rfl, ?_⟩
    dsimp only
    cases hd : decode c s.instrBits with
    | ok p => exact .inl ⟨p.1, p.2, rfl, rfl⟩
    | error e =>
      cases e with
      | needBits n => exact .inr (.inl ⟨n, rfl, rfl⟩)
      | emptyTable t => exact .inr (.inr (.inl ⟨t, rfl, rfl⟩))
      | invalidCode t => exact .inr (.inr (.inr (.inl ⟨t, rfl, rfl⟩)))
      | outsideAlphabet => exact .inr (.inr (.inr (.inr ⟨rfl, rfl⟩)))

/-- The cases of a step: the turn at the head of the agenda, the core's where there is none. -/
theorem step_cases (s : State) :
    (s.agenda = [] ∧ step s = coreStep s) ∨
    (∃ rest, s.agenda = .core :: rest ∧ step s = coreStep { s with agenda := rest }) ∨
    (∃ a rest, s.agenda = .host a :: rest ∧ step s = hostStep a { s with agenda := rest }) ∨
    (∃ rest, s.agenda = .powerOn :: rest ∧ step s = .next ({ s with agenda := rest } : State).powerOnReset) := by
  unfold step
  cases h : s.agenda with
  | nil => exact .inl ⟨rfl, rfl⟩
  | cons t rest =>
    cases t with
    | core => exact .inr (.inl ⟨rest, rfl, rfl⟩)
    | host a => exact .inr (.inr (.inl ⟨a, rest, rfl, rfl⟩))
    | powerOn => exact .inr (.inr (.inr ⟨rest, rfl, rfl⟩))

/-- The cases of a host step: a command, or a step that changes only what its own rule names (spec/45_host.md R280). -/
theorem hostStep_cases (a : HostAction) (s : State) :
    (∃ v, a = .write 0 .word v ∧ hostStep a s = exec (decodeCommand v) s) ∨
    hostStep a s = .refused .outsideHostContract ∨
    ∃ cr ln q tm rp dr, hostStep a s =
      .next { s with declCrc := cr, declLen := ln, inq := q, interm := tm, reply := rp, draws := dr } := by
  cases a with
  | read off width =>
    right
    simp only [hostStep, hostRead]
    split_ifs
    · exact .inr ⟨_, _, _, _, _, _, rfl⟩
    · exact .inr ⟨_, _, _, _, _, _, rfl⟩
    · exact .inl rfl
  | write off width v =>
    by_cases hc : off = 0 ∧ width = .word
    · obtain ⟨rfl, rfl⟩ := hc
      exact .inl ⟨v, rfl, rfl⟩
    · right
      simp only [hostStep, if_neg hc, hostWrite]
      split_ifs
      · exact .inr ⟨s.declCrc, s.declLen, s.inq, s.interm, s.reply, s.draws, rfl⟩
      · exact .inr ⟨v, s.declLen, s.inq, s.interm, s.reply, s.draws, rfl⟩
      · exact .inr ⟨s.declCrc, v, s.inq, s.interm, s.reply, s.draws, rfl⟩
      · exact .inr ⟨s.declCrc, s.declLen, s.inq, s.interm, s.reply, s.draws, rfl⟩
      · exact .inr ⟨s.declCrc, s.declLen, s.inq, s.interm, s.reply, s.draws, rfl⟩
      · exact .inl rfl
  | push b =>
    right; right
    simp only [hostStep, pushByte]
    split_ifs
    · exact ⟨_, _, _, _, _, _, rfl⟩
    · exact ⟨s.declCrc, s.declLen, s.inq, s.interm, s.reply, s.draws, rfl⟩
  | signalEof =>
    right; right
    simp only [hostStep, signalEnd]
    split_ifs
    · exact ⟨_, _, _, _, _, _, rfl⟩
    · exact ⟨s.declCrc, s.declLen, s.inq, s.interm, s.reply, s.draws, rfl⟩
  | signalIoErr =>
    right; right
    simp only [hostStep, signalEnd]
    split_ifs
    · exact ⟨_, _, _, _, _, _, rfl⟩
    · exact ⟨s.declCrc, s.declLen, s.inq, s.interm, s.reply, s.draws, rfl⟩

end Sys2Proof.Machine
end

