-- ==== Sys2Proof/Laws/PerInstr.lean ====
section
/-! SUPPORT. Per-instruction laws: the family `Format`. An instruction stands only in contexts of its own format
(spec/30_encoding.md R80, R91), so the opcode table's `format` column and the decoder's contexts agree. -/

namespace Sys2Proof.Laws.Format

open Sys2Proof.Machine

/-- Wherever the instruction stands, the context reads elements of the instruction's format. -/
def Statement (i : Instr) : Prop := ∀ c : Ctx, i.fits c = true → c.format = i.format

theorem of_commandWord {i : Instr} (h : i.commandWord.isSome = true) : i.format = .cmd := by
  unfold Instr.commandWord at h
  split at h <;> first | rfl | simp at h

theorem of_headerFields {i : Instr} (h : i.headerFields.isSome = true) : i.format = .blkhdr := by
  unfold Instr.headerFields at h
  split at h <;> first | rfl | simp at h

theorem of_symbol {i : Instr} {a : Alphabet} {sym : Nat} (h : i.symbol = some (a, sym)) (t : Table) (x : BitVec 15)
    (n : BitVec 4) : (Ctx.symbol a t x n).format = i.format := by
  cases i <;> first
    | (cases h <;> rfl)
    | (rename_i p; cases p <;> cases h <;> rfl)

theorem of_field {i : Instr} {c : Ctx} {n v : Nat} (h : i.field = some (c, n, v)) : c.format = i.format := by
  cases i <;> first
    | cases h
    | (rename_i p; cases p <;> cases h <;> rfl)

/-- The format of an instruction's context, for every instruction at once. -/
theorem of_fits (i : Instr) : Statement i := by
  intro c h
  have field : (match i.field with | some (c', _, _) => c' == c | none => false) = true → c.format = i.format := by
    intro hf
    split at hf
    · next c' n v he => rw [← eq_of_beq hf]; exact of_field he
    · cases hf
  cases c with
  | command => rw [of_commandWord (Bool.and_eq_true _ _ ▸ h).1]; rfl
  | header => rw [of_headerFields h]; rfl
  | symbol a t x n =>
    simp only [Instr.fits] at h
    split at h
    · next a' sym he =>
      rw [Bool.and_eq_true] at h
      obtain rfl := eq_of_beq h.1
      exact of_symbol he t x n
    · cases h
  | storedLen => exact field h
  | storedNlen => exact field h
  | storedByte => exact field h
  | hlit => exact field h
  | hdist => exact field h
  | hclen => exact field h
  | clLen => exact field h
  | clBuild => exact field h
  | repeatExtra r => exact field h
  | lengthExtra m => exact field h
  | distExtra d => exact field h
  | copy d => exact field h
  | readByte => exact field h
  | trailerByte => exact field h

/-! One lemma per constructor. -/

theorem openStream : Statement .openStream := of_fits _
theorem resume : Statement .resume := of_fits _
theorem readByte (p : CmdPart) : Statement (.readByte p) := of_fits _
theorem check : Statement .check := of_fits _
theorem checkTrailer (p : CmdPart) : Statement (.checkTrailer p) := of_fits _
theorem cmdReserved (w : Word) : Statement (.cmdReserved w) := of_fits _
theorem blkStored (f : Bool) : Statement (.blkStored f) := of_fits _
theorem blkFixed (f : Bool) : Statement (.blkFixed f) := of_fits _
theorem blkDynamic (f : Bool) : Statement (.blkDynamic f) := of_fits _
theorem blkReserved (f : Bool) : Statement (.blkReserved f) := of_fits _
theorem stored (x : StoredField) : Statement (.stored x) := of_fits _
theorem dynhdr (x : DynField) : Statement (.dynhdr x) := of_fits _
theorem clLen (v : BitVec 4) : Statement (.clLen v) := of_fits _
theorem clRepPrev (p : SymPart 2) : Statement (.clRepPrev p) := of_fits _
theorem clRepZeroS (p : SymPart 3) : Statement (.clRepZeroS p) := of_fits _
theorem clRepZeroL (p : SymPart 7) : Statement (.clRepZeroL p) := of_fits _
theorem lit (c : Byte) : Statement (.lit c) := of_fits _
theorem eob : Statement .eob := of_fits _
theorem len257 (p : SymPart 0) : Statement (.len257 p) := of_fits _
theorem len258 (p : SymPart 0) : Statement (.len258 p) := of_fits _
theorem len259 (p : SymPart 0) : Statement (.len259 p) := of_fits _
theorem len260 (p : SymPart 0) : Statement (.len260 p) := of_fits _
theorem len261 (p : SymPart 0) : Statement (.len261 p) := of_fits _
theorem len262 (p : SymPart 0) : Statement (.len262 p) := of_fits _
theorem len263 (p : SymPart 0) : Statement (.len263 p) := of_fits _
theorem len264 (p : SymPart 0) : Statement (.len264 p) := of_fits _
theorem len265 (p : SymPart 1) : Statement (.len265 p) := of_fits _
theorem len266 (p : SymPart 1) : Statement (.len266 p) := of_fits _
theorem len267 (p : SymPart 1) : Statement (.len267 p) := of_fits _
theorem len268 (p : SymPart 1) : Statement (.len268 p) := of_fits _
theorem len269 (p : SymPart 2) : Statement (.len269 p) := of_fits _
theorem len270 (p : SymPart 2) : Statement (.len270 p) := of_fits _
theorem len271 (p : SymPart 2) : Statement (.len271 p) := of_fits _
theorem len272 (p : SymPart 2) : Statement (.len272 p) := of_fits _
theorem len273 (p : SymPart 3) : Statement (.len273 p) := of_fits _
theorem len274 (p : SymPart 3) : Statement (.len274 p) := of_fits _
theorem len275 (p : SymPart 3) : Statement (.len275 p) := of_fits _
theorem len276 (p : SymPart 3) : Statement (.len276 p) := of_fits _
theorem len277 (p : SymPart 4) : Statement (.len277 p) := of_fits _
theorem len278 (p : SymPart 4) : Statement (.len278 p) := of_fits _
theorem len279 (p : SymPart 4) : Statement (.len279 p) := of_fits _
theorem len280 (p : SymPart 4) : Statement (.len280 p) := of_fits _
theorem len281 (p : SymPart 5) : Statement (.len281 p) := of_fits _
theorem len282 (p : SymPart 5) : Statement (.len282 p) := of_fits _
theorem len283 (p : SymPart 5) : Statement (.len283 p) := of_fits _
theorem len284 (p : SymPart 5) : Statement (.len284 p) := of_fits _
theorem len285 (p : SymPart 0) : Statement (.len285 p) := of_fits _
theorem llInvalid286 : Statement .llInvalid286 := of_fits _
theorem llInvalid287 : Statement .llInvalid287 := of_fits _
theorem dist0 (p : DistPart 0) : Statement (.dist0 p) := of_fits _
theorem dist1 (p : DistPart 0) : Statement (.dist1 p) := of_fits _
theorem dist2 (p : DistPart 0) : Statement (.dist2 p) := of_fits _
theorem dist3 (p : DistPart 0) : Statement (.dist3 p) := of_fits _
theorem dist4 (p : DistPart 1) : Statement (.dist4 p) := of_fits _
theorem dist5 (p : DistPart 1) : Statement (.dist5 p) := of_fits _
theorem dist6 (p : DistPart 2) : Statement (.dist6 p) := of_fits _
theorem dist7 (p : DistPart 2) : Statement (.dist7 p) := of_fits _
theorem dist8 (p : DistPart 3) : Statement (.dist8 p) := of_fits _
theorem dist9 (p : DistPart 3) : Statement (.dist9 p) := of_fits _
theorem dist10 (p : DistPart 4) : Statement (.dist10 p) := of_fits _
theorem dist11 (p : DistPart 4) : Statement (.dist11 p) := of_fits _
theorem dist12 (p : DistPart 5) : Statement (.dist12 p) := of_fits _
theorem dist13 (p : DistPart 5) : Statement (.dist13 p) := of_fits _
theorem dist14 (p : DistPart 6) : Statement (.dist14 p) := of_fits _
theorem dist15 (p : DistPart 6) : Statement (.dist15 p) := of_fits _
theorem dist16 (p : DistPart 7) : Statement (.dist16 p) := of_fits _
theorem dist17 (p : DistPart 7) : Statement (.dist17 p) := of_fits _
theorem dist18 (p : DistPart 8) : Statement (.dist18 p) := of_fits _
theorem dist19 (p : DistPart 8) : Statement (.dist19 p) := of_fits _
theorem dist20 (p : DistPart 9) : Statement (.dist20 p) := of_fits _
theorem dist21 (p : DistPart 9) : Statement (.dist21 p) := of_fits _
theorem dist22 (p : DistPart 10) : Statement (.dist22 p) := of_fits _
theorem dist23 (p : DistPart 10) : Statement (.dist23 p) := of_fits _
theorem dist24 (p : DistPart 11) : Statement (.dist24 p) := of_fits _
theorem dist25 (p : DistPart 11) : Statement (.dist25 p) := of_fits _
theorem dist26 (p : DistPart 12) : Statement (.dist26 p) := of_fits _
theorem dist27 (p : DistPart 12) : Statement (.dist27 p) := of_fits _
theorem dist28 (p : DistPart 13) : Statement (.dist28 p) := of_fits _
theorem dist29 (p : DistPart 13) : Statement (.dist29 p) := of_fits _
theorem distInvalid30 : Statement .distInvalid30 := of_fits _
theorem distInvalid31 : Statement .distInvalid31 := of_fits _

end Sys2Proof.Laws.Format
end

