-- ==== Sys2Proof/Tests/Slice0.lean ====
section
/-! SUPPORT. Tests: which terms are well formed, words written out from the encodings, the vectors of
spec/95_test_vectors.md as single steps, and for every obligation with hypotheses a state and operands that meet them. -/

namespace Sys2Proof.Tests

open Sys2Proof
open Sys2Proof.Machine

/-- A busy core in phase `p` with `n` bits held, from reset. -/
def busyAt (p : Phase) (bits : BitVec 64) (n : BitVec 6) : State :=
  { State.reset with state := .busy, core.phase := p, core.bitbuf := bits, core.bitcnt := n }

/-! ## Well-formedness and decoding -/

/-- spec/30_encoding.md R91: a command's own word is not a reserved one. -/
theorem test_wf_refuses_command_words :
    (Instr.cmdReserved 1).wf = false ∧ (Instr.cmdReserved 3).wf = false ∧ (Instr.cmdReserved 5).wf = false := by
  decide

/-- spec/30_encoding.md R91: 0, 6 and a word with a bit above the opcode are reserved. -/
theorem test_wf_takes_reserved_words :
    (Instr.cmdReserved 0).wf = true ∧ (Instr.cmdReserved 6).wf = true ∧ (Instr.cmdReserved 0x12).wf = true := by
  decide

/-- spec/30_encoding.md R91: the command words. -/
theorem test_words_commands :
    decodeTableWord 32 1 = some .openStream ∧ decodeTableWord 32 2 = some .resume ∧
    decodeTableWord 32 3 = some (.readByte .command) ∧ decodeTableWord 32 4 = some .check ∧
    decodeTableWord 32 5 = some (.checkTrailer .command) ∧ decodeTableWord 32 0x12 = some (.cmdReserved 0x12) := by
  decide +kernel

/-- spec/30_encoding.md R81: the block headers, as the 3-bit integer of the opcode table. -/
theorem test_words_headers :
    decodeTableWord 3 1 = some (.blkStored true) ∧ decodeTableWord 3 2 = some (.blkFixed false) ∧
    decodeTableWord 3 5 = some (.blkDynamic true) ∧ decodeTableWord 3 6 = some (.blkReserved false) := by
  decide +kernel

/-- spec/30_encoding.md R82, R83, spec/45_host.md R285, R287: fields and bytes, first bit read on the left. -/
theorem test_words_fields :
    decode .storedNlen [false, false, true, true, true, true, true, true, true, true, true, true, true, true, true, true]
      = .ok (.stored (.nlen 0xFFFC), 16) ∧
    decode .storedByte [true, false, false, false, false, true, true, false] = .ok (.stored (.byte 0x61), 8) ∧
    decode .hdist [false, true, true, true, true] = .ok (.dynhdr (.hdist 30), 5) ∧
    decode .hclen [false, true, true, true] = .ok (.dynhdr (.hclen 14), 4) ∧
    decode .clLen [true, false, false] = .ok (.dynhdr (.clLen 1), 3) ∧ decode .clBuild [] = .ok (.dynhdr .build, 0) ∧
    decode .readByte [false, true, false, false, false, false, true, true] = .ok (.readByte (.byte 0xC2), 8) ∧
    decode .trailerByte [true, false, false, false, false, false, true, false]
      = .ok (.checkTrailer (.byte 0x41), 8) := by
  decide

/-- spec/30_encoding.md R85: with code-length lengths 2 for symbols 3, 16, 17 and 18 the codes are 00, 01, 10, 11. -/
theorem test_words_code_length_symbols :
    let t := buildTable [0, 0, 0, 2, 0, 0, 0, 0, 0, 0, 0, 0, 0, 0, 0, 0, 2, 2, 2]
    decode (.symbol .cl t 0 0) [false, false] = .ok (.clLen 3, 2) ∧
    decode (.symbol .cl t 0 0) [false, true] = .ok (.clRepPrev .code, 2) ∧
    decode (.symbol .cl t 0 0) [true, false] = .ok (.clRepZeroS .code, 2) ∧
    decode (.symbol .cl t 0 0) [true, true] = .ok (.clRepZeroL .code, 2) ∧
    decode (.repeatExtra 16) [true, false] = .ok (.clRepPrev (.extra 1), 2) ∧
    decode (.repeatExtra 17) [true, false, false] = .ok (.clRepZeroS (.extra 1), 3) ∧
    decode (.repeatExtra 18) [true, false, false, false, false, false, false] = .ok (.clRepZeroL (.extra 1), 7) := by
  decide

/-- spec/30_encoding.md R87: symbols 30 and 31 have no fixed code; a table of 32 five-bit codes codes them. -/
theorem test_words_invalid_distances :
    decode (.symbol .dist (buildTable (List.replicate 32 5)) 0 0) [true, true, true, true, false]
      = .ok (.distInvalid30, 5) ∧
    decode (.symbol .dist (buildTable (List.replicate 32 5)) 0 0) [true, true, true, true, true]
      = .ok (.distInvalid31, 5) ∧
    decode (.symbol .dist fixedDist 0 0) [true, true, true, true, false] = .error (.invalidCode .dist) := by
  decide +kernel

/-- spec/30_encoding.md R86: the fixed codes of the length symbols. -/
theorem test_words_length_257_to_266 :
    decode (.symbol .ll fixedLit 0 0) [false, false, false, false, false, false, true] = .ok (.len257 .code, 7) ∧
    decode (.symbol .ll fixedLit 0 0) [false, false, false, false, false, true, false] = .ok (.len258 .code, 7) ∧
    decode (.symbol .ll fixedLit 0 0) [false, false, false, false, false, true, true] = .ok (.len259 .code, 7) ∧
    decode (.symbol .ll fixedLit 0 0) [false, false, false, false, true, false, false] = .ok (.len260 .code, 7) ∧
    decode (.symbol .ll fixedLit 0 0) [false, false, false, false, true, false, true] = .ok (.len261 .code, 7) ∧
    decode (.symbol .ll fixedLit 0 0) [false, false, false, false, true, true, false] = .ok (.len262 .code, 7) ∧
    decode (.symbol .ll fixedLit 0 0) [false, false, false, false, true, true, true] = .ok (.len263 .code, 7) ∧
    decode (.symbol .ll fixedLit 0 0) [false, false, false, true, false, false, false] = .ok (.len264 .code, 7) ∧
    decode (.symbol .ll fixedLit 0 0) [false, false, false, true, false, false, true] = .ok (.len265 .code, 7) ∧
    decode (.symbol .ll fixedLit 0 0) [false, false, false, true, false, true, false] = .ok (.len266 .code, 7) := by
  decide +kernel

/-- spec/30_encoding.md R86: the fixed codes of the length symbols. -/
theorem test_words_length_267_to_276 :
    decode (.symbol .ll fixedLit 0 0) [false, false, false, true, false, true, true] = .ok (.len267 .code, 7) ∧
    decode (.symbol .ll fixedLit 0 0) [false, false, false, true, true, false, false] = .ok (.len268 .code, 7) ∧
    decode (.symbol .ll fixedLit 0 0) [false, false, false, true, true, false, true] = .ok (.len269 .code, 7) ∧
    decode (.symbol .ll fixedLit 0 0) [false, false, false, true, true, true, false] = .ok (.len270 .code, 7) ∧
    decode (.symbol .ll fixedLit 0 0) [false, false, false, true, true, true, true] = .ok (.len271 .code, 7) ∧
    decode (.symbol .ll fixedLit 0 0) [false, false, true, false, false, false, false] = .ok (.len272 .code, 7) ∧
    decode (.symbol .ll fixedLit 0 0) [false, false, true, false, false, false, true] = .ok (.len273 .code, 7) ∧
    decode (.symbol .ll fixedLit 0 0) [false, false, true, false, false, true, false] = .ok (.len274 .code, 7) ∧
    decode (.symbol .ll fixedLit 0 0) [false, false, true, false, false, true, true] = .ok (.len275 .code, 7) ∧
    decode (.symbol .ll fixedLit 0 0) [false, false, true, false, true, false, false] = .ok (.len276 .code, 7) := by
  decide +kernel

/-- spec/30_encoding.md R86: the fixed codes of the length symbols. -/
theorem test_words_length_277_to_285 :
    decode (.symbol .ll fixedLit 0 0) [false, false, true, false, true, false, true] = .ok (.len277 .code, 7) ∧
    decode (.symbol .ll fixedLit 0 0) [false, false, true, false, true, true, false] = .ok (.len278 .code, 7) ∧
    decode (.symbol .ll fixedLit 0 0) [false, false, true, false, true, true, true] = .ok (.len279 .code, 7) ∧
    decode (.symbol .ll fixedLit 0 0) [true, true, false, false, false, false, false, false] = .ok (.len280 .code, 8) ∧
    decode (.symbol .ll fixedLit 0 0) [true, true, false, false, false, false, false, true] = .ok (.len281 .code, 8) ∧
    decode (.symbol .ll fixedLit 0 0) [true, true, false, false, false, false, true, false] = .ok (.len282 .code, 8) ∧
    decode (.symbol .ll fixedLit 0 0) [true, true, false, false, false, false, true, true] = .ok (.len283 .code, 8) ∧
    decode (.symbol .ll fixedLit 0 0) [true, true, false, false, false, true, false, false] = .ok (.len284 .code, 8) ∧
    decode (.symbol .ll fixedLit 0 0) [true, true, false, false, false, true, false, true] = .ok (.len285 .code, 8) := by
  decide +kernel

/-- spec/30_encoding.md R87: the fixed codes of the distance symbols. -/
theorem test_words_distance_0_to_9 :
    decode (.symbol .dist fixedDist 0 0) [false, false, false, false, false] = .ok (.dist0 .code, 5) ∧
    decode (.symbol .dist fixedDist 0 0) [false, false, false, false, true] = .ok (.dist1 .code, 5) ∧
    decode (.symbol .dist fixedDist 0 0) [false, false, false, true, false] = .ok (.dist2 .code, 5) ∧
    decode (.symbol .dist fixedDist 0 0) [false, false, false, true, true] = .ok (.dist3 .code, 5) ∧
    decode (.symbol .dist fixedDist 0 0) [false, false, true, false, false] = .ok (.dist4 .code, 5) ∧
    decode (.symbol .dist fixedDist 0 0) [false, false, true, false, true] = .ok (.dist5 .code, 5) ∧
    decode (.symbol .dist fixedDist 0 0) [false, false, true, true, false] = .ok (.dist6 .code, 5) ∧
    decode (.symbol .dist fixedDist 0 0) [false, false, true, true, true] = .ok (.dist7 .code, 5) ∧
    decode (.symbol .dist fixedDist 0 0) [false, true, false, false, false] = .ok (.dist8 .code, 5) ∧
    decode (.symbol .dist fixedDist 0 0) [false, true, false, false, true] = .ok (.dist9 .code, 5) := by
  decide +kernel

/-- spec/30_encoding.md R87: the fixed codes of the distance symbols. -/
theorem test_words_distance_10_to_19 :
    decode (.symbol .dist fixedDist 0 0) [false, true, false, true, false] = .ok (.dist10 .code, 5) ∧
    decode (.symbol .dist fixedDist 0 0) [false, true, false, true, true] = .ok (.dist11 .code, 5) ∧
    decode (.symbol .dist fixedDist 0 0) [false, true, true, false, false] = .ok (.dist12 .code, 5) ∧
    decode (.symbol .dist fixedDist 0 0) [false, true, true, false, true] = .ok (.dist13 .code, 5) ∧
    decode (.symbol .dist fixedDist 0 0) [false, true, true, true, false] = .ok (.dist14 .code, 5) ∧
    decode (.symbol .dist fixedDist 0 0) [false, true, true, true, true] = .ok (.dist15 .code, 5) ∧
    decode (.symbol .dist fixedDist 0 0) [true, false, false, false, false] = .ok (.dist16 .code, 5) ∧
    decode (.symbol .dist fixedDist 0 0) [true, false, false, false, true] = .ok (.dist17 .code, 5) ∧
    decode (.symbol .dist fixedDist 0 0) [true, false, false, true, false] = .ok (.dist18 .code, 5) ∧
    decode (.symbol .dist fixedDist 0 0) [true, false, false, true, true] = .ok (.dist19 .code, 5) := by
  decide +kernel

/-- spec/30_encoding.md R87: the fixed codes of the distance symbols. -/
theorem test_words_distance_20_to_29 :
    decode (.symbol .dist fixedDist 0 0) [true, false, true, false, false] = .ok (.dist20 .code, 5) ∧
    decode (.symbol .dist fixedDist 0 0) [true, false, true, false, true] = .ok (.dist21 .code, 5) ∧
    decode (.symbol .dist fixedDist 0 0) [true, false, true, true, false] = .ok (.dist22 .code, 5) ∧
    decode (.symbol .dist fixedDist 0 0) [true, false, true, true, true] = .ok (.dist23 .code, 5) ∧
    decode (.symbol .dist fixedDist 0 0) [true, true, false, false, false] = .ok (.dist24 .code, 5) ∧
    decode (.symbol .dist fixedDist 0 0) [true, true, false, false, true] = .ok (.dist25 .code, 5) ∧
    decode (.symbol .dist fixedDist 0 0) [true, true, false, true, false] = .ok (.dist26 .code, 5) ∧
    decode (.symbol .dist fixedDist 0 0) [true, true, false, true, true] = .ok (.dist27 .code, 5) ∧
    decode (.symbol .dist fixedDist 0 0) [true, true, true, false, false] = .ok (.dist28 .code, 5) ∧
    decode (.symbol .dist fixedDist 0 0) [true, true, true, false, true] = .ok (.dist29 .code, 5) := by
  decide +kernel

/-- spec/30_encoding.md R86, R88: extra fields, first bit read as bit 0. -/
theorem test_extra_fields_length_257_to_266 :
    decode (.lengthExtra 257) [] = .ok (.len257 (.extra 0), 0) ∧
    decode (.lengthExtra 258) [] = .ok (.len258 (.extra 0), 0) ∧
    decode (.lengthExtra 259) [] = .ok (.len259 (.extra 0), 0) ∧
    decode (.lengthExtra 260) [] = .ok (.len260 (.extra 0), 0) ∧
    decode (.lengthExtra 261) [] = .ok (.len261 (.extra 0), 0) ∧
    decode (.lengthExtra 262) [] = .ok (.len262 (.extra 0), 0) ∧
    decode (.lengthExtra 263) [] = .ok (.len263 (.extra 0), 0) ∧
    decode (.lengthExtra 264) [] = .ok (.len264 (.extra 0), 0) ∧
    decode (.lengthExtra 265) [true] = .ok (.len265 (.extra 1), 1) ∧
    decode (.lengthExtra 266) [true] = .ok (.len266 (.extra 1), 1) := by
  decide +kernel

/-- spec/30_encoding.md R86, R88: extra fields, first bit read as bit 0. -/
theorem test_extra_fields_length_267_to_276 :
    decode (.lengthExtra 267) [true] = .ok (.len267 (.extra 1), 1) ∧
    decode (.lengthExtra 268) [true] = .ok (.len268 (.extra 1), 1) ∧
    decode (.lengthExtra 269) [true, false] = .ok (.len269 (.extra 1), 2) ∧
    decode (.lengthExtra 270) [true, false] = .ok (.len270 (.extra 1), 2) ∧
    decode (.lengthExtra 271) [true, false] = .ok (.len271 (.extra 1), 2) ∧
    decode (.lengthExtra 272) [true, false] = .ok (.len272 (.extra 1), 2) ∧
    decode (.lengthExtra 273) [true, false, false] = .ok (.len273 (.extra 1), 3) ∧
    decode (.lengthExtra 274) [true, false, false] = .ok (.len274 (.extra 1), 3) ∧
    decode (.lengthExtra 275) [true, false, false] = .ok (.len275 (.extra 1), 3) ∧
    decode (.lengthExtra 276) [true, false, false] = .ok (.len276 (.extra 1), 3) := by
  decide +kernel

/-- spec/30_encoding.md R86, R88: extra fields, first bit read as bit 0. -/
theorem test_extra_fields_length_277_to_285 :
    decode (.lengthExtra 277) [true, false, false, false] = .ok (.len277 (.extra 1), 4) ∧
    decode (.lengthExtra 278) [true, false, false, false] = .ok (.len278 (.extra 1), 4) ∧
    decode (.lengthExtra 279) [true, false, false, false] = .ok (.len279 (.extra 1), 4) ∧
    decode (.lengthExtra 280) [true, false, false, false] = .ok (.len280 (.extra 1), 4) ∧
    decode (.lengthExtra 281) [true, false, false, false, false] = .ok (.len281 (.extra 1), 5) ∧
    decode (.lengthExtra 282) [true, false, false, false, false] = .ok (.len282 (.extra 1), 5) ∧
    decode (.lengthExtra 283) [true, false, false, false, false] = .ok (.len283 (.extra 1), 5) ∧
    decode (.lengthExtra 284) [true, false, false, false, false] = .ok (.len284 (.extra 1), 5) ∧
    decode (.lengthExtra 285) [] = .ok (.len285 (.extra 0), 0) := by
  decide +kernel

/-- spec/30_encoding.md R87, R88: extra fields, first bit read as bit 0. -/
theorem test_extra_fields_distance_0_to_9 :
    decode (.distExtra 0) [] = .ok (.dist0 (.extra 0), 0) ∧
    decode (.distExtra 1) [] = .ok (.dist1 (.extra 0), 0) ∧
    decode (.distExtra 2) [] = .ok (.dist2 (.extra 0), 0) ∧
    decode (.distExtra 3) [] = .ok (.dist3 (.extra 0), 0) ∧
    decode (.distExtra 4) [true] = .ok (.dist4 (.extra 1), 1) ∧
    decode (.distExtra 5) [true] = .ok (.dist5 (.extra 1), 1) ∧
    decode (.distExtra 6) [true, false] = .ok (.dist6 (.extra 1), 2) ∧
    decode (.distExtra 7) [true, false] = .ok (.dist7 (.extra 1), 2) ∧
    decode (.distExtra 8) [true, false, false] = .ok (.dist8 (.extra 1), 3) ∧
    decode (.distExtra 9) [true, false, false] = .ok (.dist9 (.extra 1), 3) := by
  decide +kernel

/-- spec/30_encoding.md R87, R88: extra fields, first bit read as bit 0. -/
theorem test_extra_fields_distance_10_to_19 :
    decode (.distExtra 10) [true, false, false, false] = .ok (.dist10 (.extra 1), 4) ∧
    decode (.distExtra 11) [true, false, false, false] = .ok (.dist11 (.extra 1), 4) ∧
    decode (.distExtra 12) [true, false, false, false, false] = .ok (.dist12 (.extra 1), 5) ∧
    decode (.distExtra 13) [true, false, false, false, false] = .ok (.dist13 (.extra 1), 5) ∧
    decode (.distExtra 14) [true, false, false, false, false, false] = .ok (.dist14 (.extra 1), 6) ∧
    decode (.distExtra 15) [true, false, false, false, false, false] = .ok (.dist15 (.extra 1), 6) ∧
    decode (.distExtra 16) [true, false, false, false, false, false, false] = .ok (.dist16 (.extra 1), 7) ∧
    decode (.distExtra 17) [true, false, false, false, false, false, false] = .ok (.dist17 (.extra 1), 7) ∧
    decode (.distExtra 18) [true, false, false, false, false, false, false, false] = .ok (.dist18 (.extra 1), 8) ∧
    decode (.distExtra 19) [true, false, false, false, false, false, false, false] = .ok (.dist19 (.extra 1), 8) := by
  decide +kernel

/-- spec/30_encoding.md R87, R88: extra fields, first bit read as bit 0. -/
theorem test_extra_fields_distance_20_to_29 :
    decode (.distExtra 20) [true, false, false, false, false, false, false, false, false] = .ok (.dist20 (.extra 1), 9) ∧
    decode (.distExtra 21) [true, false, false, false, false, false, false, false, false] = .ok (.dist21 (.extra 1), 9) ∧
    decode (.distExtra 22) [true, false, false, false, false, false, false, false, false, false] = .ok (.dist22 (.extra 1), 10) ∧
    decode (.distExtra 23) [true, false, false, false, false, false, false, false, false, false] = .ok (.dist23 (.extra 1), 10) ∧
    decode (.distExtra 24) [true, false, false, false, false, false, false, false, false, false, false] = .ok (.dist24 (.extra 1), 11) ∧
    decode (.distExtra 25) [true, false, false, false, false, false, false, false, false, false, false] = .ok (.dist25 (.extra 1), 11) ∧
    decode (.distExtra 26) [true, false, false, false, false, false, false, false, false, false, false, false] = .ok (.dist26 (.extra 1), 12) ∧
    decode (.distExtra 27) [true, false, false, false, false, false, false, false, false, false, false, false] = .ok (.dist27 (.extra 1), 12) ∧
    decode (.distExtra 28) [true, false, false, false, false, false, false, false, false, false, false, false, false] = .ok (.dist28 (.extra 1), 13) ∧
    decode (.distExtra 29) [true, false, false, false, false, false, false, false, false, false, false, false, false] = .ok (.dist29 (.extra 1), 13) := by
  decide +kernel

/-! ## The vectors of spec/95_test_vectors.md -/

/-- BR1: the bytes `8D 01` read as 1, 2 and 5 bits give 1, 2 and 17. -/
theorem test_br1_bits_in_order :
    (busyAt .hBfinal 0x8D 8).field 1 = 1 ∧ ((busyAt .hBfinal 0x8D 8).took 1).field 2 = 2 ∧
    (((busyAt .hBfinal 0x8D 8).took 1).took 2).field 5 = 17 := by decide

/-- BR3: a fetch puts the byte above the 3 held bits. -/
theorem test_br3_fetch : ∃ t, coreStep { busyAt .dHlit 0b101 3 with inq := [0xA5] } = .next t ∧
    t.core.bitbuf = 0x52D ∧ t.core.bitcnt = 11 ∧ t.inq = [] := ⟨_, rfl, by decide, by decide, rfl⟩

/-- BR5, BR6: alignment drops 5 bits, and none of 0. -/
theorem test_br5_align : (busyAt .hBfinal 0x1F 5).alignToByte.core.bitcnt = 0 ∧
    (busyAt .hBfinal 0 0).alignToByte = busyAt .hBfinal 0 0 := by
  exact ⟨by decide, rfl⟩

/-- BR7: an empty queue with no terminal signal holds. -/
theorem test_br7_hold : ∃ t, coreStep (busyAt .dCllen 3 2) = .next t ∧ t = { busyAt .dCllen 3 2 with inWait := true } :=
  ⟨_, rfl, rfl⟩

/-- BR8, BR9: truncation and an I/O error. -/
theorem test_br8_br9_terminal :
    (∃ t, coreStep { busyAt .dCllen 3 2 with interm := .eof } = .next t ∧ t.state = .error ∧ t.errorWord = 0x00000D09#32) ∧
    ∃ t, coreStep { busyAt .dCllen 3 2 with interm := .ioErr } = .next t ∧ t.state = .error ∧
      t.errorWord = 0x00000E0A#32 :=
  ⟨⟨_, rfl, rfl, by decide⟩, ⟨_, rfl, rfl, by decide⟩⟩

/-- HB1: B = 0, A = 10, C = 110, D = 111. -/
theorem test_hb1_codes : tableStatus [2, 1, 3, 3] = .complete ∧
    (buildTable [2, 1, 3, 3]).codes = [⟨0, 2, 2⟩, ⟨1, 1, 0⟩, ⟨2, 3, 6⟩, ⟨3, 3, 7⟩] := by decide

/-- HB2: eight symbols. -/
theorem test_hb2_codes : tableStatus [3, 3, 3, 3, 3, 2, 4, 4] = .complete ∧
    ((buildTable [3, 3, 3, 3, 3, 2, 4, 4]).codes.map CodeEntry.code) = [2, 3, 4, 5, 6, 0, 14, 15] := by decide

/-- HB3, HB4, HB5, HB9: statuses. -/
theorem test_hb_statuses : tableStatus [1, 1, 1] = .oversub ∧ tableStatus [1] = .incomplete ∧
    tableStatus [0, 0] = .empty ∧ tableStatus (List.replicate 257 8) = .oversub := by decide +kernel

/-- HB7: at `HCNT = 5` the bits `11110` match no fixed distance code. -/
theorem test_hb7_unassigned : ∃ t, coreStep { busyAt .lDsym 0 1 with core.hcode := 15, core.hcnt := 4 } = .next t ∧
    t.errorWord = 0x00030305#32 := by
  refine ⟨raiseError .badHuffmanTable .invalidCode .dist { busyAt .lDsym 0 1 with core.hcode := 15, core.hcnt := 4 }, ?_, ?_⟩
  · rfl
  · decide

/-- HB8: a single distance code, by the parameter. -/
theorem test_hb8_single_code :
    buildDynamic .dist [1] State.reset = .error (.badHuffmanTable, .incomplete) ∧
    buildDynamic .dist [1] { State.reset with config.singleDistCodeOk := true } = .ok (buildTable [1]) :=
  ⟨rfl, rfl⟩

/-- HB10: the bits 1, 1, 0 code C. -/
theorem test_hb10_decode :
    decodeCode (buildTable [2, 1, 3, 3]) .ll 0 0 [true, true, false] = .ok (2, 3) ∧
    decodeCode (buildTable [2, 1, 3, 3]) .ll 0 0 [true, true] = .error (.needBits 1) := by decide

/-- BH1: `BTYPE = 3`. -/
theorem test_bh1_reserved : ∃ t, coreStep { busyAt .hBtype 3 2 with core.bfinal := true } = .next t ∧
    t.state = .error ∧ t.errorWord = 0x00000505#32 := ⟨_, rfl, rfl, by decide⟩

/-- BH2: the end of a stream with no output. -/
theorem test_bh2_done :
    ∃ t, coreStep { busyAt .fEnd 0 6 with core.bfinal := true, core.btype := 1, core.inBytesTotal := 2 } = .next t ∧
      t.statusWord = 0x33#32 ∧ t.outlog = [] := ⟨_, rfl, by decide, rfl⟩

/-- S3: a wrong NLEN. -/
theorem test_s3_nlen : ∃ t, exec (.stored (.nlen 0xFEFC)) { busyAt .sNlen 0 0 with core.slen := 3 } = .next t ∧
    t.errorWord = 0x00000A08#32 ∧ t.outlog = [] := ⟨_, rfl, by decide, rfl⟩

/-- S1: a payload byte goes to the window. -/
theorem test_s1_byte : ∃ t, exec (.stored (.byte 0x61)) { busyAt .sCopy 0 0 with core.srem := 3 } = .next t ∧
    t.window = [(0, 0x61)] ∧ t.core.srem = 2 ∧ t.core.w = 1 ∧ t.core.haveCount = 1 := ⟨_, rfl, by decide, by decide, by decide, by decide⟩

/-- DH1: 287 literal/length lengths. -/
theorem test_dh1_counts :
    ∃ t, exec (.dynhdr (.hclen 0)) { busyAt .dHclen 0 0 with core.hlit := 287, core.hdist := 1 } = .next t ∧
      t.errorWord = 0x00000605#32 := ⟨_, rfl, by decide⟩

/-- DH5: a decode from an EMPTY code-length table reads no bit. -/
theorem test_dh5_empty : ∃ t, coreStep (busyAt .dLensym 0 0) = .next t ∧ t.errorWord = 0x00010405#32 :=
  ⟨_, rfl, by decide⟩

/-- DH6, DH7: symbol 16 first, by the parameter. -/
theorem test_dh6_dh7_repeat_first :
    (∃ t, exec (.clRepPrev .code) (busyAt .dLensym 0 0) = .next t ∧ t.errorWord = 0x00010705#32) ∧
    ∃ t, exec (.clRepPrev (.extra 0))
        { busyAt .dRepeat 0 0 with
          config.repeatNoPrev := .zero, core.hlit := 257, core.hdist := 1, core.rsym := 16 } = .next t ∧
      t.core.lidx = 3 ∧ t.core.phase = .dLensym :=
  ⟨⟨_, rfl, by decide⟩, ⟨_, rfl, by decide, by decide⟩⟩

/-- DH12: 250 + 11 runs past 258. -/
theorem test_dh12_overflow :
    ∃ t, exec (.clRepZeroL (.extra 0))
        { busyAt .dRepeat 0 0 with core.hlit := 257, core.hdist := 1, core.lidx := 250, core.rsym := 18 } = .next t ∧
      t.errorWord = 0x00010805#32 := ⟨_, rfl, by decide⟩

/-- DH11: a repeat crosses from the literal/length lengths into the distance lengths and ends them. -/
theorem test_dh11_repeat_across :
    ∃ t, exec (.clRepPrev (.extra 1))
        { busyAt .dRepeat 0 0 with
          core.hlit := 258, core.hdist := 4, core.lidx := 258, core.rsym := 16
          core.lens := (Vector.replicate 316 0).set 257 2 } = .next t ∧
      t.core.lens[258]? = some 2 ∧ t.core.lens[261]? = some 2 ∧ t.core.lens[262]? = some 0 ∧ t.core.lidx = 262 ∧
      t.core.phase = .dBuild := ⟨_, rfl, by decide +kernel, by decide +kernel, by decide +kernel, by decide, by decide +kernel⟩

/-- Length corners 12, 130, 257 and 258. -/
theorem test_length_corners :
    (∃ t, exec (.len265 (.extra 1)) (busyAt .lLenx 0 0) = .next t ∧ t.core.mlen = 12 ∧ t.core.phase = .lDsym) ∧
    (∃ t, exec (.len280 (.extra 15)) (busyAt .lLenx 0 0) = .next t ∧ t.core.mlen = 130) ∧
    (∃ t, exec (.len284 (.extra 30)) (busyAt .lLenx 0 0) = .next t ∧ t.core.mlen = 257) ∧
    ∃ t, exec (.len285 (.extra 0)) (busyAt .lLenx 0 0) = .next t ∧ t.core.mlen = 258 :=
  ⟨⟨_, rfl, by decide, rfl⟩, ⟨_, rfl, by decide⟩, ⟨_, rfl, by decide⟩, ⟨_, rfl, by decide⟩⟩

/-- Distance corners 6, 24576 and 32768. -/
theorem test_distance_corners :
    (∃ t, exec (.dist4 (.extra 1)) { busyAt .lDistx 0 0 with core.haveCount := 6 } = .next t ∧ t.core.mdist = 6) ∧
    (∃ t, exec (.dist28 (.extra 8191)) { busyAt .lDistx 0 0 with core.haveCount := 32768 } = .next t ∧
      t.core.mdist = 24576 ∧ t.core.phase = .lCopy) ∧
    ∃ t, exec (.dist29 (.extra 8191)) { busyAt .lDistx 0 0 with core.haveCount := 32768, core.mlen := 3 } = .next t ∧
      t.core.mdist = 32768 ∧ t.core.mrem = 3 :=
  ⟨⟨_, rfl, by decide⟩, ⟨_, rfl, by decide, by decide⟩, ⟨_, rfl, by decide, by decide⟩⟩

/-- Y4: a distance of 1 with no history. -/
theorem test_y4_too_far : ∃ t, exec (.dist0 (.extra 0)) (busyAt .lDistx 0 0) = .next t ∧
    t.errorWord = 0x00030905#32 := ⟨_, rfl, by decide⟩

/-- Y8, spec/43_symbols.md R184, R216: the invalid symbols. -/
theorem test_y8_invalid_symbols :
    (∃ t, exec .llInvalid286 (busyAt .lSym 0 0) = .next t ∧ t.errorWord = 0x00020305#32) ∧
    (∃ t, exec .llInvalid287 (busyAt .lSym 0 0) = .next t ∧ t.errorWord = 0x00020305#32) ∧
    (∃ t, exec .distInvalid30 (busyAt .lDsym 0 0) = .next t ∧ t.errorWord = 0x00030305#32) ∧
    ∃ t, exec .distInvalid31 (busyAt .lDsym 0 0) = .next t ∧ t.errorWord = 0x00030305#32 :=
  ⟨⟨_, rfl, by decide⟩, ⟨_, rfl, by decide⟩, ⟨_, rfl, by decide⟩, ⟨_, rfl, by decide⟩⟩

/-- Y2: a copy at distance 1 reads the byte before `W`; Y13: at distance 32768 the cell it writes. -/
theorem test_y2_y13_copy :
    (∃ t, exec (.dist0 .copy)
        { busyAt .lCopy 0 0 with window := [(0, 0x61)], core.w := 1, core.mdist := 1, core.mrem := 10 } = .next t ∧
      t.window = [(0, 0x61), (1, 0x61)] ∧ t.core.mrem = 9) ∧
    ∃ t, exec (.dist29 .copy)
        { busyAt .lCopy 0 0 with window := [(0, 0), (1, 0x0D)], core.w := 1, core.mdist := 32768, core.mrem := 1 } = .next t ∧
      t.window = [(0, 0), (1, 0x0D)] ∧ t.core.w = 2 ∧ t.core.phase = .lSym :=
  ⟨⟨_, rfl, by decide, by decide⟩, ⟨_, rfl, by decide, by decide, by decide⟩⟩

/-- W1: the CRC of `abc`. -/
theorem test_w1_crc : crcOver 0xFFFFFFFF#32 [0x61, 0x62, 0x63] ^^^ 0xFFFFFFFF#32 = 0x352441C2#32 := by decide +kernel

/-- W2: the literal that fills the window. -/
theorem test_w2_full : ∃ t, exec (.lit 0x7A) { busyAt .lSym 0 0 with core.w := 32767 } = .next t ∧
    t.window = [(32767, 0x7A)] ∧ t.state = .flush ∧ t.finalFlush = false ∧ t.core.w = 32768 ∧ t.flushLen = 32768 ∧
    t.core.phase = .lSym := ⟨_, rfl, by decide, rfl, rfl, by decide, by decide, rfl⟩

/-- W8, W9, W10: CHECK. -/
theorem test_w8_w9_w10_check :
    (∃ t, exec .check
        { State.reset with
          state := .done, crcState := 0xCADBBE3D#32, count := 3, declCrc := 0x352441C2#32, declLen := 3 } = .next t ∧
      t.verified = true ∧ t.state = .done) ∧
    (∃ t, exec .check
        { State.reset with
          state := .done, crcState := 0xCADBBE3D#32, count := 3, declCrc := 0x352441C2#32, declLen := 4 } = .next t ∧
      t.errorWord = 0x00000B08#32 ∧ t.state = .error) ∧
    ∃ t, exec .check
        { State.reset with state := .done, crcState := 0xCADBBE3D#32, count := 3, declLen := 4 } = .next t ∧
      t.errorWord = 0x00000C07#32 :=
  ⟨⟨_, rfl, by decide, by decide⟩, ⟨_, rfl, by decide, by decide⟩, ⟨_, rfl, by decide⟩⟩

/-- HC1, HC2: rejected commands in IDLE. -/
theorem test_hc1_hc2_rejected :
    (∃ t, hostStep (.write 0 .word 3) State.reset = .next t ∧ t.statusWord = 0x100#32) ∧
    ∃ t, hostStep (.write 0 .word 0x12) State.reset = .next t ∧ t.statusWord = 0x100#32 :=
  ⟨⟨_, rfl, by decide⟩, ⟨_, rfl, by decide⟩⟩

/-- HC4, HC5, HC7: RESUME, a second RESUME, OPEN. -/
theorem test_hc4_hc5_hc7_resume_open :
    (∃ t, hostStep (.write 0 .word 2) State.reset = .next t ∧ t.statusWord = 1#32) ∧
    (∃ t, hostStep (.write 0 .word 2) (busyAt .hBfinal 0 0) = .next t ∧ t.statusWord = 0x101#32) ∧
    ∃ t, hostStep (.write 0 .word 1) { busyAt .hBfinal 0 0 with inWait := true } = .next t ∧ t.statusWord = 0 :=
  ⟨⟨_, rfl, by decide⟩, ⟨_, rfl, by decide⟩, ⟨_, rfl, by decide⟩⟩

/-- HC9: RESUME after a final flush. -/
theorem test_hc9_resume_final :
    ∃ t, exec .resume { State.reset with state := .flush, finalFlush := true, core.phase := .xDone, core.w := 3 } = .next t ∧
      t.core.w = 0 ∧ t.state = .done ∧ t.finalFlush = false := ⟨_, rfl, rfl, rfl, rfl⟩

/-- HC10: the byte of a READ_BYTE. -/
theorem test_hc10_read_byte : ∃ t, coreStep (busyAt .cRdbyte 0xC2 8) = .next t ∧ t.core.data = 0xC2 ∧
    t.state = .done ∧ t.core.bitcnt = 0 := ⟨_, rfl, by decide, by decide, by decide⟩

/-- HC11: the last trailer byte ends in a CHECK. -/
theorem test_hc11_trailer :
    ∃ t, exec (.checkTrailer (.byte 0))
        { busyAt .cTrailer 0 0 with
          crcState := 0xCADBBE3D#32, count := 3, declCrc := 0x352441C2#32, declLen := 3, core.tidx := 7 } = .next t ∧
      t.verified = true ∧ t.state = .done ∧ t.core.tidx = 8 := ⟨_, rfl, by decide, by decide, by decide⟩

/-- HC16: a push after a terminal signal is ignored. -/
theorem test_hc16_push_after_end : hostStep (.push 1) { State.reset with interm := .eof } =
    .next { State.reset with interm := .eof } := rfl

/-- A word of the opcode table runs as the next step: LEN_285 of the fixed code. -/
theorem test_fetch_word_runs :
    (match step (State.reset.withFetchWord 8 0xC5) with
      | .next t => t.core.msym == 285 && t.core.phase == .lLenx && t.core.bitcnt == 0
      | _ => false) = true := by
  decide +kernel

/-! ## What the statements' hypotheses are met by

One theorem for each obligation with hypotheses, one part for each of its clauses, at the ends of ranges. -/

/-- RegisterReads: the first and the last register offset, the first reserved one. -/
theorem test_witness_RegisterReads :
    ((0 : Offset).toNat < 0x8000 ∧ (0 : Offset).toNat % 4 = 0) ∧
    ((0x7FFC : Offset).toNat < 0x8000 ∧ (0x7FFC : Offset).toNat % 4 = 0) ∧ 0x2C ≤ 0x2C := by decide

/-- WindowPortReads: the first and the last cell, with a value, with none, while BUSY. -/
theorem test_witness_WindowPortReads :
    0x8000 ≤ (0x8000 : Offset).toNat ∧ 0x8000 ≤ (0xFFFF : Offset).toNat ∧
    ({ State.reset with window := [(32767, 1)] } : State).state ≠ .busy ∧
    ({ State.reset with window := [(32767, 1)] } : State).window.read ((0xFFFF : Offset).toNat - 0x8000) = some 1 ∧
    State.reset.window.read ((0x8000 : Offset).toNat - 0x8000) = none ∧ (busyAt .hBfinal 0 0).state = .busy := by
  decide

/-- DeclaredValueWrites: an idle and a busy core, the neighbours of the two registers, the first cell. -/
theorem test_witness_DeclaredValueWrites :
    State.reset.state ≠ .busy ∧ (busyAt .hBfinal 0 0).state = .busy ∧
    ((0x10 : Offset).toNat < 0x8000 ∧ (0x10 : Offset).toNat % 4 = 0 ∧ (0x10 : Offset) ≠ 0 ∧ (0x10 : Offset) ≠ 0x14 ∧
      (0x10 : Offset) ≠ 0x18) ∧
    ((0x7FFC : Offset).toNat < 0x8000 ∧ (0x7FFC : Offset).toNat % 4 = 0 ∧ (0x7FFC : Offset) ≠ 0 ∧
      (0x7FFC : Offset) ≠ 0x14 ∧ (0x7FFC : Offset) ≠ 0x18) ∧
    0x8000 ≤ (0x8000 : Offset).toNat := by decide

/-- InputPortRules: an open port and an ended one. -/
theorem test_witness_InputPortRules :
    State.reset.interm = .none ∧ ({ State.reset with interm := .eof } : State).interm ≠ .none := by decide

/-- CommandWordsAndAcceptance: the reserved words nearest the commands; an accepted and a rejected command. -/
theorem test_witness_CommandWordsAndAcceptance :
    ((0 : Word) = 0 ∨ 6 ≤ (0 : Word).toNat) ∧ ((6 : Word) = 0 ∨ 6 ≤ (6 : Word).toNat) ∧
    ((5 : Word) = 1 ∨ ((5 : Word) = 2 ∧ ({ State.reset with state := .done } : State).state ≠ .busy) ∨
      (((5 : Word) = 3 ∨ (5 : Word) = 4 ∨ (5 : Word) = 5) ∧ ({ State.reset with state := .done } : State).state = .done)) ∧
    ¬ ((3 : Word) = 1 ∨ ((3 : Word) = 2 ∧ State.reset.state ≠ .busy) ∨
      (((3 : Word) = 3 ∨ (3 : Word) = 4 ∨ (3 : Word) = 5) ∧ State.reset.state = .done)) := by decide

/-- ResumeCommand: each `STATE`, and a flush of each kind. -/
theorem test_witness_ResumeCommand :
    State.reset.state = .idle ∧
    (∃ s : State, s.state = .flush ∧ s.finalFlush = true) ∧ (∃ s : State, s.state = .flush ∧ s.finalFlush = false) ∧
    (∃ s : State, s.state = .done ∨ s.state = .error) ∧ (busyAt .hBfinal 0 0).state = .busy :=
  ⟨rfl, ⟨{ State.reset with state := .flush, finalFlush := true }, rfl, rfl⟩,
    ⟨{ State.reset with state := .flush }, rfl, rfl⟩, ⟨{ State.reset with state := .done }, .inl rfl⟩, rfl⟩

/-- ReadByteCommand: DONE; a byte behind 7 bits that alignment drops. -/
theorem test_witness_ReadByteCommand :
    (∃ s : State, s.state = .done) ∧
    ∃ s : State, s.state = .busy ∧ s.core.phase = .cRdbyte ∧ 8 ≤ s.alignToByte.core.bitcnt.toNat :=
  ⟨⟨{ State.reset with state := .done }, rfl⟩, ⟨busyAt .cRdbyte 0 15, rfl, rfl, by decide⟩⟩

/-- CheckCommand: DONE and not; a wrong CRC, a wrong length, both right. -/
theorem test_witness_CheckCommand :
    (∃ s : State, s.state = .done) ∧ (∃ s : State, s.state ≠ .done) ∧ (∃ s : State, s.crcState ^^^ 0xFFFFFFFF#32 ≠ s.declCrc) ∧
    (∃ s : State, s.crcState ^^^ 0xFFFFFFFF#32 = s.declCrc ∧ s.count ≠ s.declLen) ∧
    ∃ s : State, s.crcState ^^^ 0xFFFFFFFF#32 = s.declCrc ∧ s.count = s.declLen :=
  ⟨⟨{ State.reset with state := .done }, rfl⟩, ⟨State.reset, by decide⟩, ⟨{ State.reset with declCrc := 1 }, by decide⟩,
    ⟨{ State.reset with declLen := 1 }, by decide, by decide⟩, ⟨State.reset, by decide, by decide⟩⟩

/-- CheckTrailerCommand: DONE, a byte held, `TIDX` 0, 3, 4, 6 and 7. -/
theorem test_witness_CheckTrailerCommand :
    (∃ s : State, s.state = .done) ∧ (busyAt .cTrailer 0 8).Ready .cTrailer 8 ∧
    (busyAt .cTrailer 0 8).core.tidx.toNat < 4 ∧ ({ State.reset with core.tidx := 3 } : State).core.tidx.toNat < 4 ∧
    (∃ s : State, s.core.tidx = 4 ∧ 4 ≤ s.core.tidx.toNat ∧ s.core.tidx.toNat < 7) ∧
    (∃ s : State, s.core.tidx = 6 ∧ 4 ≤ s.core.tidx.toNat ∧ s.core.tidx.toNat < 7) ∧
    (∃ s : State, s.core.tidx = 7) ∧ (3 < 4 ∧ 0 < 4) :=
  ⟨⟨{ State.reset with state := .done }, rfl⟩, ⟨rfl, rfl, by decide⟩, by decide, by decide,
    ⟨{ State.reset with core.tidx := 4 }, rfl, by decide, by decide⟩,
    ⟨{ State.reset with core.tidx := 6 }, rfl, by decide, by decide⟩, ⟨{ State.reset with core.tidx := 7 }, rfl⟩, by decide⟩

/-- TurnsAndScheduling: each kind of turn. -/
theorem test_witness_TurnsAndScheduling :
    State.reset.agenda = [] ∧ ({ State.reset with agenda := [.core] } : State).agenda = .core :: [] ∧
    ({ State.reset with agenda := [.host .signalEof] } : State).agenda = .host .signalEof :: [] ∧
    State.reset.state ≠ .busy := by decide

/-- StepRunsDecodedInstruction: a header's last two bits, and a stored byte. -/
theorem test_witness_StepRunsDecodedInstruction :
    (∃ s c i k, s.state = .busy ∧ State.ctx s = some c ∧ s.prepared.needed ≤ s.prepared.core.bitcnt.toNat ∧
      decode c s.prepared.instrBits = .ok (i, k) ∧ i = .blkFixed true) ∧
    (∃ s c i k, s.state = .busy ∧ State.ctx s = some c ∧ s.prepared.needed ≤ s.prepared.core.bitcnt.toNat ∧
      decode c s.prepared.instrBits = .ok (i, k) ∧ i = .readByte (.byte 0x61)) ∧
    State.reset.core.phase ≠ .cRdbyte ∧ (busyAt .cRdbyte 0 0).core.phase = .cRdbyte :=
  ⟨⟨{ busyAt .hBtype 1 2 with core.bfinal := true }, .header, .blkFixed true, 3, rfl, rfl, by decide, by decide, rfl⟩,
    ⟨busyAt .cRdbyte 0x30FF 15, .readByte, .readByte (.byte 0x61), 8, rfl, rfl, by decide, by decide, rfl⟩, by decide, rfl⟩

/-- NeedBitsFetchesOrHolds: a symbol of the most extra bits of each kind; one bit short, with a byte, with neither byte
nor signal, and at each end of the port. -/
theorem test_witness_NeedBitsFetchesOrHolds :
    (∃ s : State, s.core.phase = .lLenx ∧ lengthRow s.core.msym.toNat = some (5, 227)) ∧
    (∃ s : State, s.core.phase = .lDistx ∧ distanceRow s.core.dsym.toNat = some (13, 24577)) ∧
    (∃ s : State, s.state = .busy ∧ s.prepared.core.bitcnt.toNat < s.prepared.needed ∧ s.inq = 0xA5 :: []) ∧
    (∃ s : State, s.state = .busy ∧ s.prepared.core.bitcnt.toNat < s.prepared.needed ∧ s.inq = [] ∧ s.interm = .eof) ∧
    (∃ s : State, s.state = .busy ∧ s.prepared.core.bitcnt.toNat < s.prepared.needed ∧ s.inq = [] ∧ s.interm = .ioErr) ∧
    ∃ s : State, s.state = .busy ∧ s.prepared.core.bitcnt.toNat < s.prepared.needed ∧ s.inq = [] ∧ s.interm = .none :=
  ⟨⟨{ busyAt .lLenx 0 0 with core.msym := 284 }, rfl, by decide⟩, ⟨{ busyAt .lDistx 0 0 with core.dsym := 29 }, rfl, by decide⟩,
    ⟨{ busyAt .sLen 0 15 with inq := [0xA5] }, rfl, by decide, rfl⟩,
    ⟨{ busyAt .sLen 0 15 with interm := .eof }, rfl, by decide, rfl, rfl⟩,
    ⟨{ busyAt .cRdbyte 0 7 with interm := .ioErr }, rfl, by decide, rfl, rfl⟩,
    ⟨busyAt .hBfinal 0 0, rfl, by decide, rfl, rfl⟩⟩

/-- BitReaderOrder: all the held bits; none to align; the fullest accumulator that takes a byte. -/
theorem test_witness_BitReaderOrder :
    23 ≤ (busyAt .hBfinal 0 23).core.bitcnt.toNat ∧ (busyAt .hBfinal 0 16).core.bitcnt.toNat % 8 = 0 ∧
    ∃ s : State, s.core.bitbuf.toNat < 2 ^ s.core.bitcnt.toNat ∧ s.core.bitcnt.toNat + 8 < 64 ∧ s.inq = 1 :: [] :=
  ⟨by decide, by decide, ⟨{ busyAt .hBfinal 0x7FFFFFFFFFFFFF 55 with inq := [1] }, by decide, by decide, rfl⟩⟩

/-- A busy core at the start of a block, `bytes` queued and the port ended. -/
def atStart (bytes : List Byte) : State := { busyAt .hBfinal 0 0 with inq := bytes, interm := .eof }

/-- The invariant holds of it. -/
theorem test_start_inv (bytes : List Byte) : (atStart bytes).Inv := by
  refine ⟨rfl, .inr ⟨?_, ?_, ?_, ?_, trivial⟩⟩
  · refine ⟨nofun, nofun, nofun, nofun, nofun, ⟨fun h => ?_, fun h => nomatch h.1⟩, ?_, nofun, nofun⟩
    · exact absurd (show (0 : BitVec 16).toNat = Config.windowSize from h) (by decide)
    · show (0 : BitVec 16).toNat ≤ Config.windowSize
      decide
  · constructor
    · show (0 : BitVec 64).toNat < 2 ^ (0 : BitVec 6).toNat
      decide
    · show (0 : BitVec 6).toNat < 1 + 8
      decide
    · exact Nat.zero_le _
  · refine ⟨?_, Nat.le_refl _, fun i h => absurd h (Nat.not_lt_zero i), fun _ d h1 h2 => ?_⟩
    · show (0 : BitVec 16).toNat ≤ Config.windowSize
      decide
    · exact absurd (Nat.le_trans h1 (show d ≤ (0 : BitVec 16).toNat from h2)) (by decide)
  · intro h
    exact nomatch h

/-- StreamPositionOnlyAdvances: the fetch of the first byte. -/
theorem test_witness_StreamPositionOnlyAdvances : ∃ s t : State, s.Inv ∧ s.state = .busy ∧ coreStep s = .next t ∧
    t.state ≠ .error := ⟨atStart [3], _, test_start_inv _, rfl, rfl, by decide⟩

/-- BytesTakenInPushOrder: a step that takes a byte, and one that takes none. -/
theorem test_witness_BytesTakenInPushOrder :
    (∃ s t : State, coreStep s = .next t ∧ s.inq = 3 :: t.inq) ∧ ∃ s t : State, coreStep s = .next t ∧ s.inq = t.inq :=
  ⟨⟨atStart [3], _, rfl, rfl⟩, ⟨busyAt .hBfinal 0 0, _, rfl, rfl⟩⟩

/-- DecodeReadsOneCodeBit: an EMPTY table; the last bit of a code; the last bit of a code word no symbol has; a bit in the
middle of a code. -/
theorem test_witness_DecodeReadsOneCodeBit :
    (∃ s t, s.state = .busy ∧ State.ctx s = some (.symbol .cl t s.core.hcode s.core.hcnt) ∧ t.status = .empty) ∧
    (∃ (s : State) (t : Table) (e : CodeEntry) (i : Instr), s.state = .busy ∧ 1 ≤ s.core.bitcnt.toNat ∧
      State.ctx s = some (.symbol .cl t s.core.hcode s.core.hcnt) ∧ t.status ≠ .empty ∧ e ∈ t.codes ∧
      t.lookup e.len e.code = some e.sym ∧ e.len = (s.core.hcnt + 1).toNat ∧
      e.code = ((s.core.hcode <<< 1) ||| (s.field 1).setWidth 15).toNat ∧ symbolInstr .cl e.sym = some i) ∧
    (∃ (s : State) (t : Table), s.state = .busy ∧ 1 ≤ s.core.bitcnt.toNat ∧
      State.ctx s = some (.symbol .cl t s.core.hcode s.core.hcnt) ∧ t.status ≠ .empty ∧
      (∀ e, e ∈ t.codes →
        ¬ (e.len = (s.core.hcnt + 1).toNat ∧ e.code = ((s.core.hcode <<< 1) ||| (s.field 1).setWidth 15).toNat)) ∧
      (s.core.hcnt + 1).toNat = t.maxlen) ∧
    ∃ (s : State) (t : Table), s.state = .busy ∧ 1 ≤ s.core.bitcnt.toNat ∧
      State.ctx s = some (.symbol .cl t s.core.hcode s.core.hcnt) ∧ t.status ≠ .empty ∧
      (∀ e, e ∈ t.codes →
        ¬ (e.len = (s.core.hcnt + 1).toNat ∧ e.code = ((s.core.hcode <<< 1) ||| (s.field 1).setWidth 15).toNat)) ∧
      (s.core.hcnt + 1).toNat ≠ t.maxlen :=
  ⟨⟨busyAt .dLensym 0 0, _, rfl, rfl, rfl⟩,
    ⟨{ busyAt .dLensym 1 1 with core.tblCl := buildTable [2, 1, 3, 3], core.hcode := 3, core.hcnt := 2 }, _, ⟨3, 3, 7⟩, .clLen 3,
      rfl, by decide, rfl, by decide, by decide, by decide, by decide, by decide, by decide⟩,
    ⟨{ busyAt .dLensym 1 1 with core.tblCl := buildTable [1] }, _, rfl, by decide, rfl, by decide, by decide, by decide⟩,
    ⟨{ busyAt .dLensym 1 1 with core.tblCl := buildTable [2, 1, 3, 3] }, _, rfl, by decide, rfl, by decide, by decide,
      by decide⟩⟩

/-- What DecodeOfEncode and EncodeOfDecode ask of a symbol's table: a complete one and a single code of 15 bits. -/
theorem test_tables_from_lengths :
    (∃ lens, (∀ l, l ∈ lens → l ≤ 15) ∧ tableStatus lens ≠ .oversub ∧ buildTable [2, 1, 3, 3] = buildTable lens) ∧
    ∃ lens, (∀ l, l ∈ lens → l ≤ 15) ∧ tableStatus lens ≠ .oversub ∧ buildTable [15] = buildTable lens :=
  ⟨⟨[2, 1, 3, 3], by decide, by decide, rfl⟩, ⟨[15], by decide, by decide, rfl⟩⟩

/-- DecodeOfEncode: a symbol, an extra field, a command and a header. -/
theorem test_witness_DecodeOfEncode :
    (Instr.lit 3).fits (.symbol .ll (buildTable [2, 1, 3, 3]) 0 0) = true ∧
    (Instr.dist29 (.extra 8191)).fits (.distExtra 29) = true ∧
    (Instr.cmdReserved 6).fits .command = true ∧ (Instr.blkReserved true).fits .header = true ∧
    (∀ a t h n, Ctx.symbol .ll (buildTable [2, 1, 3, 3]) 0 0 = .symbol a t h n →
      h = 0 ∧ n = 0 ∧ ∃ lens, (∀ l, l ∈ lens → l ≤ 15) ∧ tableStatus lens ≠ .oversub ∧ t = buildTable lens) := by
  refine ⟨by decide, by decide, by decide, by decide, ?_⟩
  rintro a t h n ⟨⟩
  exact ⟨rfl, rfl, test_tables_from_lengths.1⟩

/-- EncodeOfDecode: a symbol of 3 bits, bits following; an extra field of exactly its width. -/
theorem test_witness_EncodeOfDecode :
    decode (.symbol .ll (buildTable [2, 1, 3, 3]) 0 0) [true, true, true, false] = .ok (.lit 3, 3) ∧
    decode (.lengthExtra 265) [true] = .ok (.len265 (.extra 1), 1) ∧
    (∀ a t h n, Ctx.symbol .ll (buildTable [2, 1, 3, 3]) 0 0 = .symbol a t h n →
      h = 0 ∧ n = 0 ∧ ∃ lens, (∀ l, l ∈ lens → l ≤ 15) ∧ tableStatus lens ≠ .oversub ∧ t = buildTable lens) :=
  ⟨by decide, by decide, test_witness_DecodeOfEncode.2.2.2.2⟩

/-- FixedTableCodes: the ends of the four ranges of the code. -/
theorem test_witness_FixedTableCodes : 143 < 144 ∧ (144 ≤ 144 ∧ 255 < 256) ∧ (256 ≤ 256 ∧ 279 < 280) ∧
    (280 ≤ 280 ∧ 287 < 288) ∧ 29 < 30 := by decide

/-- StatusIsKraftSum: lengths of 15, and each status. -/
theorem test_witness_StatusIsKraftSum :
    (∀ l, l ∈ [1, 15, 15] → l ≤ 15) ∧ tableStatus [0] = .empty ∧ tableStatus [1, 1] = .complete ∧
    tableStatus [1, 15, 15] = .incomplete ∧ tableStatus [1, 1, 15] = .oversub := by decide

/-- CanonicalCodesAreAPrefixCode: a complete set, and one with a code of 15 bits. -/
theorem test_witness_CanonicalCodesAreAPrefixCode :
    ((∀ l, l ∈ [2, 1, 3, 3] → l ≤ 15) ∧ tableStatus [2, 1, 3, 3] ≠ .oversub ∧ [2, 1, 3, 3][3]? = some 3 ∧
      ⟨3, 3, 7⟩ ∈ (buildTable [2, 1, 3, 3]).codes) ∧
    (∀ l, l ∈ [15] → l ≤ 15) ∧ tableStatus [15] ≠ .oversub ∧ (1 ≤ 1 ∧ 1 ≤ 15) ∧
    codeBits 2 2 <+: codeBits 2 2 := ⟨by decide, by decide, by decide, by decide, List.prefix_rfl⟩

/-- LayoutFindsTheDecodedSymbol: 15 bits, and a code longer than the root. -/
theorem test_witness_LayoutFindsTheDecodedSymbol :
    (∀ l, l ∈ [2, 1, 3, 3] → l ≤ 15) ∧ tableStatus [2, 1, 3, 3] ≠ .oversub ∧ 15 ≤ (List.replicate 15 true).length ∧
    layoutLookup (buildTable [2, 1, 3, 3]) 1 (List.replicate 15 true) = some (3, 3) := by decide

/-- AcceptancePolicy: each status, the single distance code, each setting of `P_OOM_POSSIBLE`. -/
theorem test_witness_AcceptancePolicy :
    tableStatus [1, 1, 1] = .oversub ∧
    (tableStatus [1] = .incomplete ∧
      ¬ (Alphabet.ll = .dist ∧ State.reset.config.singleDistCodeOk = true ∧ [1].filter (fun l => l != 0) = [1])) ∧
    tableStatus [1, 1] = .complete ∧ tableStatus [0] = .empty ∧
    (∃ s : State, tableStatus [0, 1] = .incomplete ∧ Alphabet.dist = .dist ∧ s.config.singleDistCodeOk = true ∧
      [0, 1].filter (fun l => l != 0) = [1] ∧ s.config.oomPossible = false) ∧
    ∃ s : State, s.config.oomPossible = true :=
  ⟨by decide, by decide, by decide, by decide,
    ⟨{ State.reset with config.singleDistCodeOk := true }, by decide, rfl, rfl, by decide, rfl⟩,
    ⟨{ State.reset with config.oomPossible := true }, rfl⟩⟩

/-- BlockHeaders: exactly the bits required, each type. -/
theorem test_witness_BlockHeaders :
    (busyAt .hBfinal 1 1).Ready .hBfinal 1 ∧
    ((busyAt .hBtype 0 2).Ready .hBtype 2 ∧ (busyAt .hBtype 0 2).field 2 = 0) ∧
    ((busyAt .hBtype 1 2).Ready .hBtype 2 ∧ (busyAt .hBtype 1 2).field 2 = 1) ∧
    ((busyAt .hBtype 2 2).Ready .hBtype 2 ∧ (busyAt .hBtype 2 2).field 2 = 2) ∧
    ((busyAt .hBtype 3 2).Ready .hBtype 2 ∧ (busyAt .hBtype 3 2).field 2 = 3) := by
  refine ⟨⟨rfl, rfl, ?_⟩, ⟨⟨rfl, rfl, ?_⟩, ?_⟩, ⟨⟨rfl, rfl, ?_⟩, ?_⟩, ⟨⟨rfl, rfl, ?_⟩, ?_⟩, ⟨⟨rfl, rfl, ?_⟩, ?_⟩⟩ <;> decide

/-- StoredBlock: exactly the bits required; LEN 0 and 65535 with their complements, and a wrong one; the last byte and an
earlier one, at the last cell of the window. -/
theorem test_witness_StoredBlock :
    (busyAt .sLen 0 16).Ready .sLen 16 ∧ (busyAt .sNlen 0 16).Ready .sNlen 16 ∧ (busyAt .sCopy 0 8).Ready .sCopy 8 ∧
    (∃ s : State, (0xFEFC : BitVec 16).toNat + s.core.slen.toNat ≠ 0xFFFF) ∧
    (∃ s : State, (0xFFFF : BitVec 16).toNat + s.core.slen.toNat = 0xFFFF ∧ s.core.slen = 0) ∧
    (∃ s : State, (0 : BitVec 16).toNat + s.core.slen.toNat = 0xFFFF ∧ s.core.slen ≠ 0) ∧
    (∃ s : State, s.core.w.toNat < Config.windowSize ∧ s.core.srem ≠ 1 ∧ s.core.w = 32767) ∧
    ∃ s : State, s.core.w.toNat < Config.windowSize ∧ s.core.srem = 1 ∧ s.core.w = 32767 :=
  ⟨⟨rfl, rfl, by decide⟩, ⟨rfl, rfl, by decide⟩, ⟨rfl, rfl, by decide⟩, ⟨{ State.reset with core.slen := 3 }, by decide⟩,
    ⟨State.reset, by decide, rfl⟩, ⟨{ State.reset with core.slen := 0xFFFF }, by decide, by decide⟩,
    ⟨{ State.reset with core.w := 32767, core.srem := 2 }, by decide, by decide, rfl⟩,
    ⟨{ State.reset with core.w := 32767, core.srem := 1 }, by decide, rfl, rfl⟩⟩

/-- DynamicHeaderCounts: exactly the bits required; the largest counts allowed, and one more of each. -/
theorem test_witness_DynamicHeaderCounts :
    (busyAt .dHlit 0 5).Ready .dHlit 5 ∧ (busyAt .dHdist 0 5).Ready .dHdist 5 ∧ (busyAt .dHclen 0 4).Ready .dHclen 4 ∧
    (∃ s : State, s.core.hlit = 287 ∧ (286 < s.core.hlit.toNat ∨ 30 < s.core.hdist.toNat)) ∧
    (∃ s : State, s.core.hdist = 31 ∧ (286 < s.core.hlit.toNat ∨ 30 < s.core.hdist.toNat)) ∧
    ∃ s : State, s.core.hlit = 286 ∧ s.core.hdist = 30 ∧ s.core.hlit.toNat ≤ 286 ∧ s.core.hdist.toNat ≤ 30 :=
  ⟨⟨rfl, rfl, by decide⟩, ⟨rfl, rfl, by decide⟩, ⟨rfl, rfl, by decide⟩,
    ⟨{ State.reset with core.hlit := 287 }, rfl, by decide⟩, ⟨{ State.reset with core.hdist := 31 }, rfl, by decide⟩,
    ⟨{ State.reset with core.hlit := 286, core.hdist := 30 }, rfl, rfl, by decide, by decide⟩⟩

/-- CodeLengthTable: the first and the last of the lengths, the last of the count and an earlier one; a table that builds
and one that does not. -/
theorem test_witness_CodeLengthTable :
    (busyAt .dCllen 0 3).Ready .dCllen 3 ∧ (busyAt .dClbuild 0 0).Ready .dClbuild 0 ∧
    (∃ s : State, clOrder[s.core.clidx.toNat]? = some 16 ∧ s.core.clidx + 1 ≠ s.core.hclen) ∧
    (∃ s : State, clOrder[s.core.clidx.toNat]? = some 15 ∧ s.core.clidx + 1 = s.core.hclen) ∧
    (∃ s t, buildDynamic .cl s.clLengths s = .ok t) ∧
    ∃ s, buildDynamic .cl s.clLengths s = .error (.badHuffmanTable, .incomplete) :=
  ⟨⟨rfl, rfl, by decide⟩, ⟨rfl, rfl, by decide⟩, ⟨{ State.reset with core.hclen := 4 }, rfl, by decide⟩,
    ⟨{ State.reset with core.clidx := 18, core.hclen := 19 }, rfl, by decide⟩, ⟨State.reset, _, rfl⟩,
    ⟨{ State.reset with core.clLens := (Vector.replicate 19 0).set 0 1 }, rfl⟩⟩

/-- CodeLengthSymbols: the last index; symbol 16 first, with each parameter, and not first. -/
theorem test_witness_CodeLengthSymbols :
    (∃ s : State, s.core.lidx = 315 ∧ s.core.lidx.toNat + 1 ≤ 316) ∧
    (∃ s : State, s.core.lidx = 0 ∧ s.config.repeatNoPrev = .fault) ∧
    (∃ s : State, s.core.lidx ≠ 0 ∨ s.config.repeatNoPrev = .zero) ∧
    ∃ s : State, s.core.lidx = 0 ∧ (s.core.lidx ≠ 0 ∨ s.config.repeatNoPrev = .zero) :=
  ⟨⟨{ State.reset with core.lidx := 315 }, rfl, by decide⟩, ⟨State.reset, rfl, rfl⟩,
    ⟨{ State.reset with core.lidx := 1 }, by decide⟩,
    ⟨{ State.reset with config.repeatNoPrev := .zero }, rfl, by decide⟩⟩

/-- RepeatedCodeLengths: exactly the bits required; a repeat that ends the 316 lengths, the first length, and one more
than fits. -/
theorem test_witness_RepeatedCodeLengths :
    ({ busyAt .dRepeat 0 2 with core.rsym := 16 } : State).Ready .dRepeat 2 ∧
    ({ busyAt .dRepeat 0 3 with core.rsym := 17 } : State).Ready .dRepeat 3 ∧
    ({ busyAt .dRepeat 0 7 with core.rsym := 18 } : State).Ready .dRepeat 7 ∧
    (∃ s : State, s.lengthTotal ≤ 316 ∧ (s.core.lidx = 0 ∧ (0 : BitVec 4) = 0) ∧
      s.core.lidx.toNat + (3 + (3 : BitVec 2).toNat) ≤ s.core.hlit.toNat + s.core.hdist.toNat) ∧
    (∃ s : State, s.lengthTotal ≤ 316 ∧ (s.core.lidx ≠ 0 ∧ s.core.lens[s.core.lidx.toNat - 1]? = some 0) ∧
      s.core.lidx.toNat + (3 + (3 : BitVec 2).toNat) = s.core.hlit.toNat + s.core.hdist.toNat) ∧
    (∃ s : State, s.lengthTotal ≤ 316 ∧
      s.core.lidx.toNat + (3 + (7 : BitVec 3).toNat) = s.core.hlit.toNat + s.core.hdist.toNat) ∧
    (∃ s : State, s.lengthTotal ≤ 316 ∧
      s.core.lidx.toNat + (11 + (127 : BitVec 7).toNat) = s.core.hlit.toNat + s.core.hdist.toNat) ∧
    (∃ s : State, s.core.hlit.toNat + s.core.hdist.toNat + 1 = s.core.lidx.toNat + (3 + (0 : BitVec 2).toNat)) ∧
    (∃ s : State, s.core.hlit.toNat + s.core.hdist.toNat + 1 = s.core.lidx.toNat + (3 + (0 : BitVec 3).toNat)) ∧
    ∃ s : State, s.core.hlit.toNat + s.core.hdist.toNat + 1 = s.core.lidx.toNat + (11 + (0 : BitVec 7).toNat) :=
  ⟨⟨rfl, rfl, by decide⟩, ⟨rfl, rfl, by decide⟩, ⟨rfl, rfl, by decide⟩,
    ⟨{ State.reset with core.hlit := 257, core.hdist := 1 }, by decide, ⟨rfl, rfl⟩, by decide⟩,
    ⟨{ State.reset with core.hlit := 286, core.hdist := 30, core.lidx := 310 }, by decide, ⟨by decide, by decide +kernel⟩, by decide⟩,
    ⟨{ State.reset with core.hlit := 286, core.hdist := 30, core.lidx := 306 }, by decide, by decide⟩,
    ⟨{ State.reset with core.hlit := 286, core.hdist := 30, core.lidx := 178 }, by decide, by decide⟩,
    ⟨{ State.reset with core.hlit := 257, core.hdist := 1, core.lidx := 256 }, by decide⟩,
    ⟨{ State.reset with core.hlit := 257, core.hdist := 1, core.lidx := 256 }, by decide⟩,
    ⟨{ State.reset with core.hlit := 257, core.hdist := 1, core.lidx := 248 }, by decide⟩⟩

/-- SymbolTablesBuilt: two EMPTY tables build; a lone literal/length code does not; nor a lone distance code; a step in a
phase that writes no table and no selector. -/
theorem test_witness_SymbolTablesBuilt :
    (∃ s lt dt, s.Ready .dBuild 0 ∧ buildDynamic .ll s.litLengths s = .ok lt ∧
      buildDynamic .dist s.distLengths s = .ok dt) ∧
    (∃ s e d, s.Ready .dBuild 0 ∧ buildDynamic .ll s.litLengths s = .error (e, d)) ∧
    (∃ s lt e d, s.Ready .dBuild 0 ∧ buildDynamic .ll s.litLengths s = .ok lt ∧
      buildDynamic .dist s.distLengths s = .error (e, d)) ∧
    ∃ s t : State, s.Inv ∧ s.resetTurn = false ∧ step s = .next t ∧ t.state ≠ .error ∧ s.core.phase ≠ .hBtype ∧
      s.core.phase ≠ .dClbuild ∧ s.core.phase ≠ .dBuild :=
  ⟨⟨{ busyAt .dBuild 0 0 with core.hlit := 2, core.hdist := 1 }, _, _, ⟨rfl, rfl, by decide⟩, rfl, rfl⟩,
    ⟨{ busyAt .dBuild 0 0 with core.hlit := 2, core.hdist := 1, core.lens := (Vector.replicate 316 0).set 0 1 },
      _, _, ⟨rfl, rfl, by decide⟩, rfl⟩,
    ⟨{ busyAt .dBuild 0 0 with core.hlit := 2, core.hdist := 1, core.lens := (Vector.replicate 316 0).set 2 1 },
      _, _, _, ⟨rfl, rfl, by decide⟩, rfl, rfl⟩,
    ⟨atStart [3], _, test_start_inv _, rfl, rfl, by decide, by decide, by decide, by decide⟩⟩

/-- EndOfStream: one byte in the window, and none. -/
theorem test_witness_EndOfStream :
    (({ busyAt .fEnd 0 0 with core.w := 1 } : State).Ready .fEnd 0 ∧ 0 < ({ busyAt .fEnd 0 0 with core.w := 1 } : State).core.w.toNat) ∧
    (busyAt .fEnd 0 0).Ready .fEnd 0 ∧ (busyAt .fEnd 0 0).core.w = 0 :=
  ⟨⟨⟨rfl, rfl, by decide⟩, by decide⟩, ⟨rfl, rfl, by decide⟩, rfl⟩

/-- SymbolsWithoutExtraBits: the last cell of the window. -/
theorem test_witness_SymbolsWithoutExtraBits :
    ({ State.reset with core.w := 32767 } : State).core.w.toNat < Config.windowSize := by decide

/-- LengthSymbols257To266, LengthSymbols267To276, LengthSymbols277To285: exactly the extra bits held, for the least and the most of them. -/
theorem test_witness_LengthRule :
    ({ busyAt .lLenx 0 0 with core.msym := 285 } : State).Ready .lLenx 0 ∧
    ({ busyAt .lLenx 0 5 with core.msym := 284 } : State).Ready .lLenx 5 :=
  ⟨⟨rfl, rfl, by decide⟩, ⟨rfl, rfl, by decide⟩⟩

/-- DistanceSymbols0To9, DistanceSymbols10To19, DistanceSymbols20To29: exactly the extra bits held; the whole history, one byte short of it, and the parameter. -/
theorem test_witness_DistanceRule :
    ({ busyAt .lDistx 0 13 with core.dsym := 29 } : State).Ready .lDistx 13 ∧
    (∃ s : State, 24577 + (8191 : BitVec 13).toNat = s.core.haveCount.toNat) ∧
    (∃ s : State, s.config.distTooFar = .window) ∧
    ∃ s : State, s.core.haveCount.toNat + 1 = 24577 + (8191 : BitVec 13).toNat ∧ s.config.distTooFar = .fault :=
  ⟨⟨rfl, rfl, by decide⟩, ⟨{ State.reset with core.haveCount := 32768 }, by decide⟩,
    ⟨{ State.reset with config.distTooFar := .window }, rfl⟩, ⟨{ State.reset with core.haveCount := 32767 }, by decide, rfl⟩⟩

/-- LengthsAndDistancesInRange: the longest length, the largest distance, the shortest of each. -/
theorem test_witness_LengthsAndDistancesInRange :
    (lengthRow 285 = some (0, 258) ∧ 0 < 2 ^ 0) ∧ (lengthRow 284 = some (5, 227) ∧ 31 < 2 ^ 5) ∧
    (distanceRow 29 = some (13, 24577) ∧ 8191 < 2 ^ 13) ∧ lengthRow 257 = some (0, 3) ∧ distanceRow 0 = some (0, 1) := by decide

/-- MatchCopiesOneByte: the last byte and an earlier one; a source behind `W`, one behind cell 0, one with no value. -/
theorem test_witness_MatchCopiesOneByte :
    (∃ s : State, s.core.mrem = 1) ∧ (∃ s : State, s.core.mrem = 258 ∧ s.core.mrem ≠ 1) ∧
    (busyAt .lCopy 0 0).Ready .lCopy 0 ∧ (busyAt .lCopy 0 0).core.dsym = 0 ∧
    (∃ s : State, s.core.w.toNat < Config.windowSize ∧
      s.window.read (((s.core.w.toNat : Int) - s.core.mdist.toNat) % 32768).toNat = some 7 ∧ s.core.w = 32767) ∧
    (∃ s : State, s.core.w.toNat < Config.windowSize ∧
      s.window.read (((s.core.w.toNat : Int) - s.core.mdist.toNat) % 32768).toNat = some 7 ∧ s.core.w = 0) ∧
    ∃ s : State, s.core.w.toNat < Config.windowSize ∧
      s.window.read (((s.core.w.toNat : Int) - s.core.mdist.toNat) % 32768).toNat = none :=
  ⟨⟨{ State.reset with core.mrem := 1 }, rfl⟩, ⟨{ State.reset with core.mrem := 258 }, rfl, by decide⟩,
    ⟨rfl, rfl, by decide⟩, rfl,
    ⟨{ State.reset with window := [(32766, 7)], core.w := 32767, core.mdist := 1 }, by decide, by decide, rfl⟩,
    ⟨{ State.reset with window := [(32767, 7)], core.mdist := 1 }, by decide, by decide, rfl⟩,
    ⟨{ State.reset with core.mdist := 1 }, by decide, by decide⟩⟩

/-- WindowWriteAndFlush: the last write that fills no window, the one that does, `HAVE` at its limit, a flushed byte. -/
theorem test_witness_WindowWriteAndFlush :
    ({ State.reset with core.w := 32766 } : State).core.w.toNat + 1 < Config.windowSize ∧
    ({ State.reset with core.w := 32767 } : State).core.w.toNat + 1 = Config.windowSize ∧
    ∃ (s : State) (b : Byte), 0 < s.core.w.toNat ∧ s.window.read 0 = some b :=
  ⟨by decide, by decide, ⟨{ State.reset with window := [(0, 7)], core.w := 1 }, 7, by decide, rfl⟩⟩

/-- A busy core about to copy 4 bytes at distance 3, `a b c` behind it. -/
def atCopy : State :=
  { busyAt .lCopy 0 0 with
    window := [(0, 0x61), (1, 0x62), (2, 0x63)]
    core.w := 3, core.haveCount := 3, core.mdist := 3, core.mrem := 4, core.mlen := 4, core.dsym := 2 }

/-- The fixed tables decode into their alphabets. -/
theorem test_fixed_tables_ok : atCopy.TablesOk := by
  constructor
  · show ∀ e, e ∈ fixedLit.codes → e.sym < 288
    decide +kernel
  · show ∀ e, e ∈ fixedDist.codes → e.sym < 32
    decide +kernel

/-- The invariant holds of it. -/
theorem test_copy_inv : atCopy.Inv := by
  refine ⟨by decide, .inr ⟨?_, ?_, ?_, ?_, ?_⟩⟩
  · exact ⟨nofun, nofun, nofun, nofun, nofun, ⟨fun h => absurd h (by decide), fun h => nomatch h.1⟩, by decide, nofun, nofun⟩
  · exact ⟨by decide, by decide, by decide⟩
  · refine ⟨by decide, by decide, by decide, fun _ d h1 h2 => ?_⟩
    have h3 : d ≤ 3 := h2
    interval_cases d <;> decide
  · intro h
    exact nomatch h
  · exact ⟨test_fixed_tables_ok, by decide, by decide, by decide, by decide, by decide, fun _ => by decide⟩

/-- OverlappedMatchRepeatsPeriodically: a match longer than its distance, at the whole history. -/
theorem test_witness_OverlappedMatchRepeatsPeriodically :
    atCopy.Inv ∧ atCopy.state = .busy ∧ atCopy.core.phase = .lCopy ∧
    atCopy.core.mdist.toNat ≤ atCopy.core.haveCount.toNat ∧
    atCopy.core.w.toNat + atCopy.core.mrem.toNat < Config.windowSize := ⟨test_copy_inv, rfl, rfl, by decide, by decide⟩

/-- MatchSpansAFlush: the least and the largest distance and distance symbol; the last byte of a match and an earlier
one. -/
theorem test_witness_MatchSpansAFlush :
    (∃ s : State, s.Ready .lCopy 0 ∧ s.core.w = 32767 ∧ s.core.dsym.toNat ≤ 29 ∧ 1 ≤ s.core.mdist.toNat ∧
      s.core.mdist.toNat ≤ 32768 ∧ s.core.mdist = 1 ∧ s.core.mrem = 1) ∧
    ∃ s : State, s.Ready .lCopy 0 ∧ s.core.w = 32767 ∧ s.core.dsym.toNat ≤ 29 ∧ 1 ≤ s.core.mdist.toNat ∧
      s.core.mdist.toNat ≤ 32768 ∧ s.core.mdist = 32768 ∧ s.core.dsym = 29 ∧ s.core.mrem ≠ 1 :=
  ⟨⟨{ busyAt .lCopy 0 0 with core.w := 32767, core.mdist := 1, core.mrem := 1 },
      ⟨rfl, rfl, by decide⟩, rfl, by decide, by decide, by decide, rfl, rfl⟩,
    ⟨{ busyAt .lCopy 0 0 with core.w := 32767, core.dsym := 29, core.mdist := 32768, core.mrem := 2 },
      ⟨rfl, rfl, by decide⟩, rfl, by decide, by decide, by decide, rfl, rfl, by decide⟩⟩

/-- RaiseKeepsOutput: a core step that raises. -/
theorem test_witness_RaiseKeepsOutput : ∃ s t : State, coreStep s = .next t ∧ s.state = .busy ∧ t.state = .error ∧
    s.core.phase ≠ .cTrailer := ⟨atStart [], _, rfl, rfl, rfl, by decide⟩

/-- RaisedErrorsAreListed: an error of the core, one of a CHECK, and running out of memory by a free draw. -/
theorem test_witness_RaisedErrorsAreListed :
    (∃ s t : State, coreStep s = .next t ∧ s.state ≠ .error ∧ t.state = .error ∧ t.errCode = .truncatedInput) ∧
    (∃ s t : State, exec .check s = .next t ∧ s.state ≠ .error ∧ t.state = .error ∧ t.errCode = .crcMismatch) ∧
    ∃ s : State, s.config.oomPossible = true ∧ s.state ≠ .error :=
  ⟨⟨atStart [], _, rfl, by decide, rfl, rfl⟩,
    ⟨{ State.reset with state := .done, declCrc := 1 }, _, rfl, by decide, rfl, rfl⟩,
    ⟨{ State.reset with config.oomPossible := true }, rfl, by decide⟩⟩

/-- ErrorIsSticky: a push in ERROR, a core turn, an open port. -/
theorem test_witness_ErrorIsSticky :
    (∃ s t : State, s.state = .error ∧ s.resetTurn = false ∧ step s = .next t) ∧
    (∃ s t : State, s.state = .error ∧ coreStep s = .next t) ∧ ∃ s : State, s.state = .error ∧ s.interm = .none :=
  ⟨⟨{ State.reset with state := .error, agenda := [.host (.push 1)] }, _, rfl, rfl, rfl⟩,
    ⟨{ State.reset with state := .error }, _, rfl, rfl⟩, ⟨{ State.reset with state := .error }, rfl, rfl⟩⟩

/-- StepKeepsInvariant: a fetch. -/
theorem test_witness_StepKeepsInvariant : ∃ s t : State, s.Inv ∧ step s = .next t ∧ t ≠ s :=
  ⟨atStart [3], _, test_start_inv _, rfl, by
    intro h
    exact absurd (congrArg (fun s : State => s.core.bitcnt) h) (by decide)⟩

/-- InvariantStatesNeverFault: the byte of a match, and a host access outside the contract. -/
theorem test_witness_InvariantStatesNeverFault :
    atCopy.Inv ∧ ∃ s r, s.Inv ∧ step s = .refused r :=
  ⟨test_copy_inv, ⟨{ atStart [] with agenda := [.host (.read 2 .half)] }, _,
    ⟨(test_start_inv []).window, (test_start_inv []).core.imp id fun h =>
      ⟨⟨h.1.idle, h.1.busy, h.1.done, h.1.finalFlush, h.1.fullFlush, h.1.full, h.1.range, h.1.waiting,
        h.1.dynamic⟩,
        ⟨h.2.1.upper, h.2.1.count, h.2.1.position⟩, ⟨h.2.2.1.haveRange, h.2.2.1.wHave, h.2.2.1.written, h.2.2.1.behind⟩,
        h.2.2.2.1, trivial⟩⟩, rfl⟩⟩

/-- OutputStaysAccounted: the end of a stream with one byte of output. -/
theorem test_witness_OutputStaysAccounted : ∃ s t : State, s.Accounted ∧ step s = .next t ∧ t.outlog ≠ s.outlog := by
  refine ⟨{ busyAt .fEnd 0 0 with window := [(0, 0x61)], core.w := 1, core.haveCount := 1 }, _, ⟨rfl, rfl⟩, rfl, ?_⟩
  decide

/-- A pending final flush of one byte. -/
def atFlush : State :=
  { State.reset with
    state := .flush, finalFlush := true, core.phase := .xDone, window := [(0, 0x61)], core.w := 1, flushLen := 1
    core.haveCount := 1, outlog := [⟨[0x61], true⟩], agenda := [.host (.write 0 .word 2)] }

/-- The invariant holds of it. -/
theorem test_flush_inv : atFlush.Inv := by
  refine ⟨by decide, .inr ⟨?_, ?_, ?_, ?_, trivial⟩⟩
  · exact ⟨nofun, nofun, nofun, fun _ => ⟨rfl, rfl⟩, nofun, ⟨fun h => absurd h (by decide), fun h => nomatch h.2⟩, by decide,
      nofun, nofun⟩
  · exact ⟨by decide, by decide, by decide⟩
  · exact ⟨by decide, by decide, by decide, nofun⟩
  · intro _
    refine ⟨rfl, ⟨[0x61], true⟩, rfl, rfl, rfl, ?_⟩
    decide

/-- OutlogKeepsItsShape: RESUME after the final flush. -/
theorem test_witness_OutlogKeepsItsShape : ∃ s t : State, s.Inv ∧ s.OutlogOk ∧ step s = .next t ∧ t.state = .done := by
  refine ⟨atFlush, _, test_flush_inv, ⟨nofun, ?_, ?_⟩, rfl, rfl⟩
  · rintro r ⟨⟩ h
    exact nomatch h
  · rintro r ⟨⟩ -
    exact ⟨by decide, by decide, .inr rfl⟩

/-- OutputOnlyGrows: a step that is no reset. -/
theorem test_witness_OutputOnlyGrows : ∃ s t : State, step s = .next t ∧ s.resetTurn = false :=
  ⟨atFlush, _, rfl, rfl⟩

/-- InvariantStatesReadWrittenCells: the first byte of a pending flush; the byte of a match. -/
theorem test_witness_InvariantStatesReadWrittenCells :
    (atFlush.Inv ∧ atFlush.state = .flush ∧ 0x8000 ≤ (0x8000 : Offset).toNat) ∧
    atCopy.Inv ∧ atCopy.state = .busy ∧ atCopy.core.phase = .lCopy ∧ atCopy.config.distTooFar = .fault :=
  ⟨⟨test_flush_inv, rfl, by decide⟩, test_copy_inv, rfl, rfl, rfl⟩

/-- CoreReachesASuspension: a step that neither holds nor raises; a whole stream queued, and an empty port. -/
theorem test_witness_CoreReachesASuspension :
    (∃ s t : State, s.Inv ∧ s.state = .busy ∧ coreStep s = .next t ∧ t.state ≠ .error) ∧
    (∀ bytes, (atStart bytes).Inv) ∧ ∀ bytes, (atStart bytes).state = .busy ∧ (atStart bytes).interm ≠ .none :=
  ⟨test_witness_StreamPositionOnlyAdvances, test_start_inv, fun _ => ⟨rfl, nofun⟩⟩

/-- InstancesShareNothing: the second of two cores, after power-on reset with parameters of its own. -/
theorem test_witness_InstancesShareNothing :
    System.stepAt (System.atReset #v[Params.default, { Params.default with singleDistCodeOk := true }]) 1 ≠ none ∧
    (0 : Fin 2) ≠ 1 ∧
    (System.atReset #v[Params.default, { Params.default with singleDistCodeOk := true }])[(1 : Fin 2)].draws.owner = 1 := by
  refine ⟨?_, by decide, rfl⟩
  intro h
  exact nomatch h

/-- spec/10_state.md R38: a dynamic header selects the dynamic tables. -/
theorem test_dynamic_header_selects_dynamic_tables :
    (match exec (.blkDynamic false) (busyAt .hBtype 0 0) with
     | .next t => some (t.core.curLit, t.core.curDist, t.core.phase)
     | _ => none) = some (.dyn, .dyn, .dHlit) := by decide

/-- spec/10_state.md R23, R24: after 2^32 bytes `IN_BYTES` is 0 again and `BITPOS` is not. -/
theorem test_bit_position_does_not_wrap :
    ({ State.reset with core.inBytesTotal := 2 ^ 32 } : State).core.inBytes = 0 ∧
    ({ State.reset with core.inBytesTotal := 2 ^ 32 } : State).bitPos = 2 ^ 35 := by decide

end Sys2Proof.Tests
end

section
/-! PROOF. The step runs the decoded instruction (spec/00_scope.md R10): what the decoder gives is well formed, an action
whose bits decode is `exec` of the instruction, and `prepared` changes the held bits alone. -/

namespace Sys2Proof.Machine

/-! ## What the decoder gives is well formed -/

/-- A field decodes where all its bits are there, to what its integer makes. -/
theorem decodeField_ok {n k : Nat} {mk : Nat → Instr} {bits : List Bool} {i : Instr}
    (h : decodeField n mk bits = .ok (i, k)) :
    n ≤ bits.length ∧ i = mk (natOfBits (bits.take n)) ∧ k = n := by
  unfold decodeField at h
  split at h
  · cases h
  · next hn =>
    cases h
    exact ⟨Nat.not_lt.1 hn, rfl, rfl⟩

theorem wf_of_decodeField {n k : Nat} {mk : Nat → Instr} {bits : List Bool} {i : Instr}
    (hmk : ∀ v, (mk v).wf = true) (h : decodeField n mk bits = .ok (i, k)) : i.wf = true := by
  obtain ⟨-, rfl, -⟩ := decodeField_ok h
  exact hmk _

/-- A word decodes to `CMD_RESERVED` only where it is none of the five commands (spec/30_encoding.md R91). -/
theorem wf_decodeCommand (w : Word) : (decodeCommand w).wf = true := by
  unfold decodeCommand
  split_ifs with h1 h2 h3 h4 h5
  case neg =>
    have hw : w.toNat = 0 ∨ 5 < w.toNat := by bv_omega
    simpa [Instr.wf, isCommandWord] using hw
  all_goals rfl

theorem wf_decodeHeader (h : Nat) : (decodeHeader h).wf = true := by
  unfold decodeHeader
  split_ifs <;> rfl

theorem wf_of_mem_lengthInstrs : ∀ p ∈ lengthInstrs, p.1.wf = true ∧ ∀ v, (p.2 v).wf = true := by
  simp [lengthInstrs, Instr.wf]

theorem wf_of_mem_distanceInstrs :
    ∀ p ∈ distanceInstrs, p.1.wf = true ∧ (∀ v, (p.2.1 v).wf = true) ∧ p.2.2.wf = true := by
  simp [distanceInstrs, Instr.wf]

theorem wf_of_symbolInstr {a : Alphabet} {sym : Nat} {i : Instr} (h : symbolInstr a sym = some i) : i.wf = true := by
  unfold symbolInstr at h
  split at h
  · split_ifs at h <;> cases h <;> rfl
  · cases h; rfl
  · cases h; rfl
  · obtain ⟨p, hp, rfl⟩ := Option.map_eq_some_iff.1 h
    exact (wf_of_mem_lengthInstrs p (List.mem_of_getElem? hp)).1
  · obtain ⟨p, hp, rfl⟩ := Option.map_eq_some_iff.1 h
    exact (wf_of_mem_distanceInstrs p (List.mem_of_getElem? hp)).1
  · split_ifs at h <;> cases h <;> rfl
  · cases h

/-- A symbol decodes where its code does and the alphabet has it. -/
theorem decodeSymbol_ok {a : Alphabet} {t : Table} {h : BitVec 15} {n : BitVec 4} {bits : List Bool} {i : Instr} {k : Nat}
    (hd : decodeSymbol a t h n bits = .ok (i, k)) :
    t.status ≠ .empty ∧ ∃ sym, decodeCode t a h n bits = .ok (sym, k) ∧ symbolInstr a sym = some i := by
  unfold decodeSymbol at hd
  split at hd
  · cases hd
  · next hst =>
    split at hd
    · cases hd
    · next sym k' hc =>
      split at hd
      · next hi =>
        cases hd
        exact ⟨hst, sym, hc, hi⟩
      · cases hd

/-- The decoder gives well-formed instructions only, in every context. -/
theorem wf_of_decode {c : Ctx} {bits : List Bool} {i : Instr} {k : Nat} (h : decode c bits = .ok (i, k)) :
    i.wf = true := by
  cases c with
  | command => exact wf_of_decodeField (fun _ => wf_decodeCommand _) h
  | header => exact wf_of_decodeField wf_decodeHeader h
  | symbol a t x n =>
    obtain ⟨-, sym, -, hi⟩ := decodeSymbol_ok h
    exact wf_of_symbolInstr hi
  | repeatExtra r =>
    simp only [decode] at h
    split_ifs at h
    all_goals exact wf_of_decodeField (fun _ => rfl) h
  | lengthExtra m =>
    simp only [decode] at h
    split at h
    · next hp => exact wf_of_decodeField (wf_of_mem_lengthInstrs _ (List.mem_of_getElem? hp)).2 h
    · cases h
  | distExtra d =>
    simp only [decode] at h
    split at h
    · next hp => exact wf_of_decodeField (wf_of_mem_distanceInstrs _ (List.mem_of_getElem? hp)).2.1 h
    · cases h
  | copy d =>
    simp only [decode] at h
    split at h
    · next hp =>
      cases h
      exact (wf_of_mem_distanceInstrs _ (List.mem_of_getElem? hp)).2.2
    · cases h
  | clBuild => cases h; rfl
  | storedLen | storedNlen | storedByte | hlit | hdist | hclen | clLen | readByte | trailerByte =>
    simp only [decode] at h
    exact wf_of_decodeField (fun _ => rfl) h

/-! ## The state an action starts from -/

theorem prepared_of_rdbyte {s : State} (h : s.core.phase = .cRdbyte) : s.prepared = s.alignToByte := if_pos h

/-- The context reads none of the bits that an alignment removes. -/
@[simp] theorem ctx_prepared (s : State) : State.ctx s.prepared = State.ctx s := by
  by_cases h : s.core.phase = .cRdbyte
  · rw [prepared_of_rdbyte h]; rfl
  · rw [prepared_of_ne h]

theorem prepared_with_agenda (s : State) (rest : List Turn) :
    ({ s with agenda := rest } : State).prepared = { s.prepared with agenda := rest } := by
  by_cases h : s.core.phase = .cRdbyte
  · rw [prepared_of_rdbyte h, prepared_of_rdbyte (s := { s with agenda := rest }) h]; rfl
  · rw [prepared_of_ne h, prepared_of_ne (s := { s with agenda := rest }) h]

/-- The action of a phase whose bits decode is the instruction's meaning (spec/00_scope.md R10). -/
theorem coreAction_of_decode {s : State} {c : Ctx} {i : Instr} {k : Nat} (hc : State.ctx s = some c)
    (hd : decode c s.instrBits = .ok (i, k)) : coreAction s = exec i s.consumed := by
  simp only [coreAction, hc, hd]

/-- A core step whose bits are held and decode is the instruction's meaning, at the prepared state with those bits
consumed and `IN_WAIT` cleared. -/
theorem coreStep_of_decode {s : State} {c : Ctx} {i : Instr} {k : Nat} (hb : s.state = .busy)
    (hc : State.ctx s = some c) (hn : s.prepared.needed ≤ s.prepared.core.bitcnt.toNat)
    (hd : decode c s.prepared.instrBits = .ok (i, k)) :
    coreStep s = exec i ({ s.prepared with inWait := false } : State).consumed := by
  rw [coreStep_act hb hn]
  exact coreAction_of_decode ((ctx_prepared s).trans hc) hd

/-- A core turn of the agenda does the same: what an action reads does not include the agenda. -/
theorem step_core_of_decode {s : State} (rest : List Turn) {c : Ctx} {i : Instr} {k : Nat} (hb : s.state = .busy)
    (hc : State.ctx s = some c) (hn : s.prepared.needed ≤ s.prepared.core.bitcnt.toNat)
    (hd : decode c s.prepared.instrBits = .ok (i, k)) :
    step { s with agenda := .core :: rest } =
      exec i ({ s.prepared with inWait := false, agenda := rest } : State).consumed := by
  have hp := prepared_with_agenda s rest
  have hstep : coreStep { s with agenda := rest } =
      exec i ({ ({ s with agenda := rest } : State).prepared with inWait := false } : State).consumed :=
    coreStep_of_decode hb hc (by rw [hp]; exact hn) (by rw [hp]; exact hd)
  rwa [hp] at hstep

end Sys2Proof.Machine

open Sys2Proof.Machine

/-- Settles O14: a core turn is `step_core_of_decode`, the instruction being well formed by `wf_of_decode`; a write of
`CMD` is a host step's first case; `prepared` is the identity but in `C_RDBYTE`. -/
theorem stepRunsDecodedInstruction : Obligations.StepRunsDecodedInstruction := by
  refine ⟨fun s rest c i k hb hc hn hd => ?_, fun _ _ _ => rfl, fun s => ?_⟩
  · exact ⟨wf_of_decode hd, step_core_of_decode rest hb hc hn hd⟩
  · exact ⟨prepared_of_ne, prepared_of_rdbyte⟩
end

section
/-! PROOF. What a core step does to a state that meets the invariant: an action starts with the bits it requires removed
(`State.Starts`) and has one of the five effects of `State.Acts`; every effect keeps the invariant and only moves
forward in the stream. -/

namespace Sys2Proof.Machine

/-! ## Moving forward in the stream -/

/-- `t` holds what `s` holds but for its next `k` bits (spec/40_bitreader.md R101). -/
structure State.Ahead (k : Nat) (s t : State) : Prop where
  held : k ≤ s.core.bitcnt.toNat
  bitcnt : t.core.bitcnt.toNat = s.core.bitcnt.toNat - k
  bitbuf : t.core.bitbuf.toNat = s.core.bitbuf.toNat / 2 ^ k
  inq : t.inq = s.inq
  total : t.core.inBytesTotal = s.core.inBytesTotal

theorem State.Ahead.trans {j k : Nat} {s u t : State} (h : s.Ahead j u) (h' : u.Ahead k t) : s.Ahead (j + k) t where
  held := by have := h.held; have := h.bitcnt; have := h'.held; omega
  bitcnt := by rw [h'.bitcnt, h.bitcnt, Nat.sub_sub]
  bitbuf := by rw [h'.bitbuf, h.bitbuf, Nat.div_div_eq_div_mul, Nat.pow_add]
  inq := h'.inq.trans h.inq
  total := h'.total.trans h.total

theorem ahead_dropBits {s : State} {n : Nat} (h : n ≤ s.core.bitcnt.toNat) : s.Ahead n (s.dropBits n) where
  held := h
  bitcnt := bitcnt_sub_toNat _ h
  bitbuf := by simp [Nat.shiftRight_eq_div_pow]
  inq := rfl
  total := rfl

/-- What is left to read is what was left, without the bits consumed (spec/10_state.md R24). -/
theorem State.Ahead.pendingBits {k : Nat} {s t : State} (h : s.Ahead k t) : t.pendingBits = s.pendingBits.drop k := by
  have hheld : t.heldBits = s.heldBits.drop k := by
    rw [State.heldBits, State.heldBits, drop_bitsOf, h.bitcnt, h.bitbuf]
  rw [State.pendingBits, State.pendingBits, hheld, h.inq, List.drop_append_of_le_length (by simpa using h.held)]

/-- `BITPOS` increases by the bits consumed (spec/10_state.md R24). -/
theorem State.Ahead.bitPos {k : Nat} {s t : State} (h : s.Ahead k t)
    (hp : s.core.bitcnt.toNat ≤ 8 * s.core.inBytesTotal) : t.bitPos = s.bitPos + k := by
  have := h.held
  rw [State.bitPos, State.bitPos, h.bitcnt, h.total]
  omega

/-! ## The effects of an action -/

/-- `t` is `s` but for bits consumed and working registers written: no output, no window byte, no decoding phase entered
from outside decoding. -/
structure State.Moves (s t : State) : Prop where
  state : t.state = s.state
  finalFlush : t.finalFlush = s.finalFlush
  inWait : t.inWait = false
  window : t.window = s.window
  config : t.config = s.config
  w : t.core.w = s.core.w
  haveCount : t.core.haveCount = s.core.haveCount
  decoding : t.core.phase.decoding = true → s.core.phase.decoding = true
  reader : ∃ k, s.Ahead k t

/-- What the invariant says of a BUSY core's phase: not finished, with the selectors and the working registers it
needs. -/
structure State.Underway (s : State) : Prop where
  goesOn : s.core.phase ≠ .xDone
  dynamic : s.core.phase.inDynamicHeader = true → s.core.curLit = .dyn ∧ s.core.curDist = .dyn
  ranges : s.RangesOk

/-- The effects of an action of state `s`: a raise, a move, a window byte written after a move, the end of a command or
of a stream with nothing to flush, the final flush (spec/00_scope.md R10). -/
inductive State.Acts (s : State) : State → Prop
  | raises {t : State} (error : t.state = .error) (window : t.window = s.window) : State.Acts s t
  | moves {t : State} (moves : s.Moves t) (underway : t.Underway) : State.Acts s t
  | writes {u : State} (b : Byte) (moves : s.Moves u) (decoding : u.core.phase.decoding = true)
      (underway : u.Underway) : State.Acts s (u.afterWrite b)
  | finishes {u : State} (verified : Bool) (moves : s.Moves u) (phase : u.core.phase = .xDone) :
      State.Acts s { u with state := .done, verified := verified }
  | flushes {u : State} (moves : s.Moves u) (phase : u.core.phase = .xDone) : State.Acts s (flush true u)

/-- The action goes on to a next state, with one of the effects. -/
def State.Completes (s : State) (r : Result) : Prop := ∃ t, r = .next t ∧ s.Acts t

theorem State.Moves.trans {s u t : State} (h : s.Moves u) (h' : u.Moves t) : s.Moves t where
  state := h'.state.trans h.state
  finalFlush := h'.finalFlush.trans h.finalFlush
  inWait := h'.inWait
  window := h'.window.trans h.window
  config := h'.config.trans h.config
  w := h'.w.trans h.w
  haveCount := h'.haveCount.trans h.haveCount
  decoding := h.decoding ∘ h'.decoding
  reader := by
    obtain ⟨j, hj⟩ := h.reader
    obtain ⟨k, hk⟩ := h'.reader
    exact ⟨j + k, hj.trans hk⟩

/-- Writing registers other than the reader's, `W` and `HAVE` is a move. -/
theorem moves_of_core {s : State} {c : CoreRegs} (cr ln : Word) (d : Draw) (hw : s.inWait = false)
    (hc : c =
      { c with
        w := s.core.w, haveCount := s.core.haveCount, bitbuf := s.core.bitbuf, bitcnt := s.core.bitcnt
        inBytesTotal := s.core.inBytesTotal })
    (hd : c.phase.decoding = true → s.core.phase.decoding = true) :
    s.Moves { s with core := c, declCrc := cr, declLen := ln, draws := d } where
  state := rfl
  finalFlush := rfl
  inWait := hw
  window := rfl
  config := rfl
  w := (congrArg CoreRegs.w hc :)
  haveCount := (congrArg CoreRegs.haveCount hc :)
  decoding := hd
  reader := by
    have hbuf : c.bitbuf = s.core.bitbuf := (congrArg CoreRegs.bitbuf hc :)
    have hcnt : c.bitcnt = s.core.bitcnt := (congrArg CoreRegs.bitcnt hc :)
    exact ⟨0, Nat.zero_le _, by simp [hcnt], by simp [hbuf], rfl, (congrArg CoreRegs.inBytesTotal hc :)⟩

theorem moves_dropBits {s : State} {n : Nat} (hw : s.inWait = false) (h : n ≤ s.core.bitcnt.toNat) :
    s.Moves (s.dropBits n) :=
  ⟨rfl, rfl, hw, rfl, rfl, rfl, rfl, id, n, ahead_dropBits h⟩

theorem moves_alignToByte {s : State} (hw : s.inWait = false) : s.Moves s.alignToByte :=
  moves_dropBits hw (Nat.mod_le _ _)

/-! ## The state an action is taken in -/

/-- What the invariant says of a BUSY core in the middle of an action: fewer than 8 bits are held, and the window has
room for a byte. -/
structure State.Acting (s : State) : Prop where
  window : s.window.wf = true
  busy : s.state = .busy
  finalFlush : s.finalFlush = false
  inWait : s.inWait = false
  room : s.core.w.toNat < Config.windowSize
  upper : s.core.bitbuf.toNat < 2 ^ s.core.bitcnt.toNat
  few : s.core.bitcnt.toNat < 8
  position : s.core.bitcnt.toNat ≤ 8 * s.core.inBytesTotal
  history : s.HistoryOk

/-- No bit is left above `BITCNT` by consuming bits (spec/40_bitreader.md R108). -/
theorem State.Ahead.upper {k : Nat} {s t : State} (h : s.Ahead k t)
    (hs : s.core.bitbuf.toNat < 2 ^ s.core.bitcnt.toNat) : t.core.bitbuf.toNat < 2 ^ t.core.bitcnt.toNat := by
  rw [h.bitbuf, h.bitcnt]
  refine Nat.div_lt_of_lt_mul ?_
  rwa [← Nat.pow_add, Nat.add_sub_cancel' h.held]

theorem State.HistoryOk.moves {s t : State} (h : s.HistoryOk) (hm : s.Moves t) : t.HistoryOk where
  haveRange := by rw [hm.haveCount]; exact h.haveRange
  wHave := by rw [hm.w, hm.haveCount]; exact h.wHave
  written := by rw [hm.w, hm.window]; exact h.written
  behind := by rw [hm.w, hm.haveCount, hm.window]; exact h.behind ∘ hm.decoding

theorem State.Acting.moves {s t : State} (h : s.Acting) (hm : s.Moves t) : t.Acting := by
  obtain ⟨k, hk⟩ := hm.reader
  exact
    { window := by rw [hm.window]; exact h.window
      busy := hm.state.trans h.busy
      finalFlush := hm.finalFlush.trans h.finalFlush
      inWait := hm.inWait
      room := by rw [hm.w]; exact h.room
      upper := hk.upper h.upper
      few := by rw [hk.bitcnt]; exact Nat.lt_of_le_of_lt (Nat.sub_le _ _) h.few
      position := by rw [hk.bitcnt, hk.total]; exact Nat.le_trans (Nat.sub_le _ _) h.position
      history := h.history.moves hm }

/-- `v` is where the action of `s` starts: the bits it requires are removed, its phase and working registers kept. -/
structure State.Starts (s v : State) : Prop where
  moves : s.Moves v
  few : v.core.bitcnt.toNat < 8
  phase : v.core.phase = s.core.phase
  underway : v.Underway

theorem State.Inv.ok {s : State} (h : s.Inv) (hne : s.state ≠ .error) :
    s.ControlOk ∧ s.ReaderOk ∧ s.HistoryOk ∧ s.FlushOk ∧ s.RangesOk :=
  h.core.resolve_left hne

theorem State.Inv.okBusy {s : State} (h : s.Inv) (hb : s.state = .busy) :
    s.ControlOk ∧ s.ReaderOk ∧ s.HistoryOk ∧ s.FlushOk ∧ s.RangesOk :=
  h.ok (by rw [hb]; decide)

/-- While the core is BUSY `W` is an index of the window (spec/10_state.md R28). -/
theorem State.ControlOk.room {s : State} (h : s.ControlOk) (hne : s.state ≠ .flush) :
    s.core.w.toNat < Config.windowSize :=
  Nat.lt_of_le_of_ne h.range fun hw => hne (h.full.1 hw).1

theorem State.ControlOk.notFinal {s : State} (h : s.ControlOk) (hne : s.state ≠ .flush) : s.finalFlush = false := by
  cases hf : s.finalFlush with
  | false => rfl
  | true => exact absurd (h.finalFlush hf).1 hne

theorem State.Inv.underway {s : State} (h : s.Inv) (hb : s.state = .busy) : s.Underway := by
  obtain ⟨hc, -, -, -, hr⟩ := h.okBusy hb
  exact ⟨hc.busy hb, hc.dynamic, hr⟩

theorem State.Inv.acting {s v : State} (h : s.Inv) (hb : s.state = .busy) (hs : s.Starts v) : v.Acting := by
  obtain ⟨hc, hr, hh, -, -⟩ := h.okBusy hb
  have hne : s.state ≠ .flush := by rw [hb]; decide
  obtain ⟨k, hk⟩ := hs.moves.reader
  exact
    { window := by rw [hs.moves.window]; exact h.window
      busy := hs.moves.state.trans hb
      finalFlush := hs.moves.finalFlush.trans (hc.notFinal hne)
      inWait := hs.moves.inWait
      room := by rw [hs.moves.w]; exact hc.room hne
      upper := hk.upper hr.upper
      few := hs.few
      position := by rw [hk.bitcnt, hk.total]; exact Nat.le_trans (Nat.sub_le _ _) hr.position
      history := hh.moves hs.moves }

/-! ## Every effect keeps the invariant -/

/-- No flush is pending: the window has room for a byte, and the reader and the history are as the invariant says. -/
structure State.Unflushed (s : State) : Prop where
  window : s.window.wf = true
  finalFlush : s.finalFlush = false
  room : s.core.w.toNat < Config.windowSize
  reader : s.ReaderOk
  history : s.HistoryOk

theorem State.Acting.unflushed {s : State} (h : s.Acting) : s.Unflushed :=
  ⟨h.window, h.finalFlush, h.room, ⟨h.upper, Nat.lt_of_lt_of_le h.few (Nat.le_add_left _ _), h.position⟩, h.history⟩

theorem State.Unflushed.inv_busy {s : State} (h : s.Unflushed) (hb : s.state = .busy) (hu : s.Underway) : s.Inv := by
  refine ⟨h.window, .inr ⟨?_, h.reader, h.history, fun hf => absurd (hb.symm.trans hf) (by decide), hu.ranges⟩⟩
  exact
    { idle := by rw [hb]; nofun
      busy := fun _ => hu.goesOn
      done := by rw [hb]; nofun
      finalFlush := by rw [h.finalFlush]; nofun
      fullFlush := by rw [hb]; nofun
      full := ⟨fun hw => absurd hw (Nat.ne_of_lt h.room), fun hf => absurd (hb.symm.trans hf.1) (by decide)⟩
      range := Nat.le_of_lt h.room
      waiting := fun _ => hb
      dynamic := hu.dynamic }

/-- In `X_DONE` no working register is in use. -/
theorem rangesOk_of_xDone {s : State} (h : s.core.phase = .xDone) : s.RangesOk := by
  simp [State.RangesOk, h]

theorem State.Unflushed.inv_done {s : State} (h : s.Unflushed) (hd : s.state = .done) (hx : s.core.phase = .xDone)
    (hw : s.inWait = false) : s.Inv := by
  refine ⟨h.window, .inr ⟨?_, h.reader, h.history, fun hf => ?_, rangesOk_of_xDone hx⟩⟩
  case refine_2 => exact absurd (hd.symm.trans hf) (by decide)
  exact
    { idle := by rw [hd]; nofun
      busy := by rw [hd]; nofun
      done := fun _ => hx
      finalFlush := by rw [h.finalFlush]; nofun
      fullFlush := by rw [hd]; nofun
      full := ⟨fun hw => absurd hw (Nat.ne_of_lt h.room), fun hf => absurd (hd.symm.trans hf.1) (by decide)⟩
      range := Nat.le_of_lt h.room
      waiting := by rw [hw]; nofun
      dynamic := by rw [hx]; nofun }

theorem haveNext_toNat (h : BitVec 16) : (haveNext h).toNat = min (h.toNat + 1) Config.windowSize := by
  unfold haveNext
  split_ifs with hlt
  · simp only [Config.windowSize] at *
    bv_omega
  · exact (Nat.min_eq_right (Nat.le_succ_of_le (Nat.not_lt.1 hlt))).symm

/-- The cell `d + 1` behind `W + 1` is the one `d` behind `W` (spec/20_memory.md R67). -/
theorem matchSource_succ (w d : Nat) : matchSource (w + 1) (d + 1) = matchSource w d := by
  simp [matchSource]

theorem matchSource_zero_right {w : Nat} (h : w < Config.windowSize) : matchSource w 0 = w := by
  simp only [matchSource, Config.windowSize] at *
  omega

theorem matchSource_windowSize (d : Nat) : matchSource Config.windowSize d = matchSource 0 d := by
  simp only [matchSource, Config.windowSize]
  omega

/-- A byte written at `W` extends the history that `HAVE` counts by one cell (spec/44_window_crc.md R260, R268). -/
theorem State.HistoryOk.putByte {s : State} (h : s.HistoryOk) (b : Byte) (hw : s.core.w.toNat < Config.windowSize)
    (hd : s.core.phase.decoding = true) : (s.putByte b).HistoryOk := by
  have hwn : (s.core.w + 1).toNat = s.core.w.toNat + 1 := by
    simp only [Config.windowSize] at hw
    bv_omega
  have hread : ∀ i, (s.window.read i).isSome = true ∨ i = s.core.w.toNat →
      ((s.window.write s.core.w.toNat b).read i).isSome = true := by
    intro i hi
    rw [Memory.read_write]
    split_ifs with hc
    · rfl
    · exact hi.resolve_right hc
  have := h.wHave
  refine ⟨?_, ?_, fun i hi => hread i ?_, fun _ d h1 h2 => hread _ ?_⟩
  · rw [State.putByte_core, haveNext_toNat]
    exact Nat.min_le_right _ _
  · rw [State.putByte_core, haveNext_toNat, hwn]
    omega
  · rw [State.putByte_core, hwn] at hi
    rcases Nat.lt_succ_iff_lt_or_eq.1 hi with hi | hi
    · exact .inl (h.written i hi)
    · exact .inr hi
  · rw [State.putByte_core, haveNext_toNat] at h2
    obtain ⟨d, rfl⟩ := Nat.exists_eq_add_of_le' h1
    rw [State.putByte_core, hwn, matchSource_succ]
    rcases Nat.eq_zero_or_pos d with rfl | hpos
    · exact .inr (matchSource_zero_right hw)
    · exact .inl (h.behind hd d hpos (by omega))

/-- The working registers stay in their ranges while a byte is written: `HAVE` does not decrease. -/
theorem State.RangesOk.putByte {s : State} (h : s.RangesOk) (b : Byte)
    (hh : s.core.haveCount.toNat ≤ Config.windowSize) : (s.putByte b).RangesOk := by
  have hmono : s.core.haveCount.toNat ≤ (haveNext s.core.haveCount).toNat := by
    rw [haveNext_toNat]
    omega
  obtain ⟨⟨_, _, _, phase⟩⟩ := s
  cases phase with
  | lCopy =>
    obtain ⟨ht, hm, hm', hs, hd, hd', hf⟩ := h
    exact ⟨ht, hm, hm', hs, hd, hd', fun hc => (hf hc).trans hmono⟩
  | _ => exact h

theorem State.Underway.putByte {s : State} (h : s.Underway) (b : Byte)
    (hh : s.core.haveCount.toNat ≤ Config.windowSize) : (s.putByte b).Underway :=
  ⟨h.goesOn, h.dynamic, h.ranges.putByte b hh⟩

theorem State.Acting.putByte {s : State} (h : s.Acting) (b : Byte) (hw : s.core.w.toNat + 1 ≠ Config.windowSize)
    (hd : s.core.phase.decoding = true) : (s.putByte b).Acting where
  window := Memory.wf_write b h.window h.room
  busy := h.busy
  finalFlush := h.finalFlush
  inWait := h.inWait
  room := by
    have := h.room
    simp only [Config.windowSize, State.putByte_core] at *
    bv_omega
  upper := h.upper
  few := h.few
  position := h.position
  history := h.history.putByte b h.room hd

/-- The record a flush appends is the window below `W` (spec/44_window_crc.md R262). -/
theorem flushOk_flush (final : Bool) {s : State} (h : ∀ i, i < s.core.w.toNat → (s.window.read i).isSome = true) :
    (flush final s).FlushOk := by
  refine fun _ => ⟨rfl, _, List.getLast?_concat, rfl, length_flushBytes s, fun i hi => ?_⟩
  obtain ⟨b, hb⟩ := Option.isSome_iff_exists.1 (h i hi)
  exact hb.trans (getElem?_flushBytes hi hb).symm

/-- A flush of a full window while decoding, or the final flush of part of one, keeps the invariant
(spec/44_window_crc.md R261, R267). -/
theorem inv_flush (final : Bool) {s : State} (hwf : s.window.wf = true) (hwait : s.inWait = false) (hr : s.ReaderOk)
    (hh : s.HistoryOk) (hu : s.core.phase.inDynamicHeader = true → s.core.curLit = .dyn ∧ s.core.curDist = .dyn)
    (hg : s.RangesOk) (hw : s.core.w.toNat ≤ Config.windowSize)
    (hfull : final = false → s.core.phase.decoding = true ∧ s.core.w.toNat = Config.windowSize)
    (hpart : final = true → s.core.phase = .xDone ∧ s.core.w.toNat ≠ Config.windowSize) : (flush final s).Inv where
  window := hwf
  core := by
    refine .inr ⟨?_, ⟨hr.upper, hr.count, hr.position⟩, ⟨hh.haveRange, hh.wHave, hh.written, hh.behind⟩,
      flushOk_flush final hh.written, hg⟩
    exact
      { idle := nofun
        busy := nofun
        done := nofun
        finalFlush := fun hf => ⟨rfl, (hpart hf).1⟩
        fullFlush := fun _ hf => (hfull hf).1
        full := by
          cases final with
          | false => exact ⟨fun _ => ⟨rfl, rfl⟩, fun _ => (hfull rfl).2⟩
          | true => exact ⟨fun h => absurd h (hpart rfl).2, fun h => nomatch h.2⟩
        range := hw
        waiting := fun hi => absurd (hwait.symm.trans hi) Bool.false_ne_true
        dynamic := hu }

theorem State.Acting.inv_afterWrite {s : State} (h : s.Acting) (hu : s.Underway) (b : Byte)
    (hd : s.core.phase.decoding = true) : (s.afterWrite b).Inv := by
  have hp := hu.putByte b h.history.haveRange
  rcases afterWrite_cases b s with ⟨hw, he⟩ | ⟨hw, he⟩ <;> rw [he]
  · exact (h.putByte b hw hd).unflushed.inv_busy h.busy hp
  · have hwn : (s.putByte b).core.w.toNat = Config.windowSize := by
      simp only [Config.windowSize, State.putByte_core] at *
      bv_omega
    have hr : (s.putByte b).ReaderOk :=
      ⟨h.upper, Nat.lt_of_lt_of_le h.few (Nat.le_add_left _ _), h.position⟩
    exact inv_flush false (Memory.wf_write b h.window h.room) h.inWait hr (h.history.putByte b h.room hd) hp.dynamic
      hp.ranges (Nat.le_of_eq hwn) (fun _ => ⟨hd, hwn⟩) nofun

theorem State.Acting.inv_flush_final {s : State} (h : s.Acting) (hx : s.core.phase = .xDone) : (flush true s).Inv :=
  inv_flush true h.window h.inWait h.unflushed.reader h.history (by rw [hx]; nofun) (rangesOk_of_xDone hx)
    (Nat.le_of_lt h.room) nofun fun _ => ⟨hx, Nat.ne_of_lt h.room⟩

theorem State.Acting.inv_done {s : State} (h : s.Acting) (hx : s.core.phase = .xDone) (verified : Bool) :
    ({ s with state := .done, verified := verified } : State).Inv := by
  obtain ⟨hwf, hf, hroom, hr, hh⟩ := h.unflushed
  have hun : ({ s with state := .done, verified := verified } : State).Unflushed :=
    ⟨hwf, hf, hroom, ⟨hr.upper, hr.count, hr.position⟩, ⟨hh.haveRange, hh.wHave, hh.written, hh.behind⟩⟩
  exact hun.inv_done rfl hx h.inWait

/-- Every effect of an action keeps the invariant. -/
theorem State.Acts.inv {s t : State} (h : s.Acts t) (hs : s.Acting) : t.Inv := by
  cases h with
  | raises error window => exact ⟨by rw [window]; exact hs.window, .inl error⟩
  | moves moves underway => exact (hs.moves moves).unflushed.inv_busy (hs.moves moves).busy underway
  | writes b moves decoding underway => exact (hs.moves moves).inv_afterWrite underway b decoding
  | finishes verified moves phase => exact (hs.moves moves).inv_done phase verified
  | flushes moves phase => exact (hs.moves moves).inv_flush_final phase

/-- Every effect but a raise only moves forward in the stream. -/
theorem State.Acts.ahead {s t : State} (h : s.Acts t) (ht : t.state ≠ .error) : ∃ k, s.Ahead k t := by
  cases h with
  | raises error _ => exact absurd error ht
  | moves moves _ => exact moves.reader
  | @writes u b moves _ _ =>
    obtain ⟨k, hk⟩ := moves.reader
    have hcore : (u.afterWrite b).core = (u.putByte b).core := afterWrite_core b u
    exact ⟨k, hk.held, by rw [hcore]; exact hk.bitcnt, by rw [hcore]; exact hk.bitbuf, by simp [hk.inq],
      by rw [hcore]; exact hk.total⟩
  | finishes verified moves _ =>
    obtain ⟨k, hk⟩ := moves.reader
    exact ⟨k, hk.held, hk.bitcnt, hk.bitbuf, hk.inq, hk.total⟩
  | flushes moves _ =>
    obtain ⟨k, hk⟩ := moves.reader
    exact ⟨k, hk.held, hk.bitcnt, hk.bitbuf, hk.inq, hk.total⟩

end Sys2Proof.Machine
end

section
/-! PROOF. Every action of a state that meets the invariant completes with one of the effects of `State.Acts`, phase by
phase (spec/10_state.md R25): first the meanings, then the decoding that leads to them. -/

namespace Sys2Proof.Machine

/-! ## The block builders' tables -/

/-- Codes are assigned to the symbols whose lengths are given (spec/41_huffman.md R123). -/
theorem sym_lt_of_mem_assignCodes {sym : Nat} {next lens : List Nat} {e : CodeEntry}
    (h : e ∈ assignCodes sym next lens) : e.sym < sym + lens.length := by
  induction lens generalizing sym next with
  | nil => cases h
  | cons len rest ih =>
    rw [List.length_cons]
    simp only [assignCodes] at h
    split_ifs at h
    · have := ih h
      omega
    · rcases List.mem_cons.1 h with rfl | h
      · show sym < _
        omega
      · have := ih h
        omega

theorem buildTable_within {a : Alphabet} {lens : List Nat} (h : lens.length ≤ a.size) : (buildTable lens).within a := by
  intro e he
  simp only [buildTable] at he
  split_ifs at he
  · cases he
  · have := sym_lt_of_mem_assignCodes he
    omega

theorem fixedLit_within : fixedLit.within .ll :=
  buildTable_within (by simp [fixedLitLens, Alphabet.size, -List.reduceReplicate])

theorem fixedDist_within : fixedDist.within .dist := buildTable_within (by simp [Alphabet.size])

/-- A symbol found in a table is in its alphabet. -/
theorem Table.within.lookup {t : Table} {a : Alphabet} (h : t.within a) {len code sym : Nat}
    (hl : t.lookup len code = some sym) : sym < a.size := by
  obtain ⟨e, he, rfl⟩ := Option.map_eq_some_iff.1 hl
  exact h e (List.mem_of_find?_eq_some he)

/-! ## Actions that only write registers -/

theorem completes_raise {v u : State} (e : ErrCode) (d : ErrDetail) (t : ErrTable) (h : u.window = v.window) :
    v.Completes (.next (raiseError e d t u)) := ⟨_, rfl, .raises rfl h⟩

theorem completes_moves {v t : State} (h : v.Moves t) (hu : t.Underway) : v.Completes (.next t) := ⟨_, rfl, .moves h hu⟩

theorem completes_windowWrite {v u : State} (b : Byte) (hA : v.Acting) (h : v.Moves u)
    (hd : u.core.phase.decoding = true) (hu : u.Underway) : v.Completes (windowWrite b u) :=
  ⟨_, windowWrite_next b (by rw [h.w]; exact hA.room), .writes b h hd hu⟩

section
variable {v : State} (hA : v.Acting) (hu : v.Underway)
include hA

theorem moves_goto (p : Phase) (h : p.decoding = true → v.core.phase.decoding = true) : v.Moves (v.goto p) :=
  moves_of_core _ _ _ hA.inWait rfl h

/-- The end of a block goes on to the next header or to the end of the stream (spec/42_block.md R159). -/
theorem moves_endOfBlock (hd : v.core.phase.decoding = true) :
    v.Moves v.endOfBlock ∧ v.endOfBlock.core.phase.decoding = true ∧ v.endOfBlock.Underway := by
  unfold State.endOfBlock
  split_ifs
  · exact ⟨moves_goto hA _ fun _ => hd, rfl, nofun, nofun, trivial⟩
  · exact ⟨moves_goto hA _ fun _ => hd, rfl, nofun, nofun, trivial⟩

/-- The four block headers (spec/42_block.md R152 to R155). -/
theorem completes_header (hp : v.core.phase = .hBtype) (h : Nat) : v.Completes (exec (decodeHeader h) v) := by
  have hd : v.core.phase.decoding = true := by rw [hp]; rfl
  unfold decodeHeader
  split_ifs
  · have hm : v.Moves ((v.setHeader (h.testBit 0) 0).goto .sLen) := moves_of_core _ _ _ hA.inWait rfl fun _ => hd
    exact completes_moves (hm.trans (moves_alignToByte hm.inWait)) ⟨nofun, nofun, trivial⟩
  · exact completes_moves (moves_of_core _ _ _ hA.inWait rfl fun _ => hd)
      ⟨nofun, nofun, fixedLit_within, fixedDist_within⟩
  · exact completes_moves (moves_of_core _ _ _ hA.inWait rfl fun _ => hd) ⟨nofun, fun _ => ⟨rfl, rfl⟩, trivial⟩
  · exact completes_raise _ _ _ rfl

/-! ## Stored blocks -/

theorem completes_storedLen (hp : v.core.phase = .sLen) (len : BitVec 16) :
    v.Completes (exec (.stored (.len len)) v) :=
  completes_moves (moves_of_core _ _ _ hA.inWait rfl fun _ => by rw [hp]; rfl) ⟨nofun, nofun, trivial⟩

theorem completes_storedNlen (hp : v.core.phase = .sNlen) (nlen : BitVec 16) :
    v.Completes (exec (.stored (.nlen nlen)) v) := by
  have hd : v.core.phase.decoding = true := by rw [hp]; rfl
  have hm : v.Moves { v with core.srem := v.core.slen } := moves_of_core _ _ _ hA.inWait rfl id
  show v.Completes (.next (checkNlen nlen v))
  unfold checkNlen
  split_ifs with _ hz
  · exact completes_raise _ _ _ rfl
  · obtain ⟨he, -, hue⟩ := moves_endOfBlock (hA.moves hm) hd
    exact completes_moves (hm.trans he) hue
  · have hpos : 0 < v.core.slen.toNat := by bv_omega
    exact completes_moves (moves_of_core _ _ _ hA.inWait rfl fun _ => hd) ⟨nofun, nofun, hpos⟩

/-- The count of a stored block goes to its end or stays positive (spec/42_block.md R158). -/
theorem moves_countStored (hp : v.core.phase = .sCopy) :
    v.Moves v.countStored ∧ v.countStored.core.phase.decoding = true ∧ v.countStored.Underway := by
  have hd : v.core.phase.decoding = true := by rw [hp]; rfl
  have hm : v.Moves { v with core.srem := v.core.srem - 1 } := moves_of_core _ _ _ hA.inWait rfl id
  unfold State.countStored
  split_ifs with hz
  · obtain ⟨he, hde, hue⟩ := moves_endOfBlock (hA.moves hm) hd
    exact ⟨hm.trans he, hde, hue⟩
  · refine ⟨hm, hd, ?_, ?_, ?_⟩
    · show v.core.phase ≠ .xDone
      rw [hp]; decide
    · show v.core.phase.inDynamicHeader = true → _
      rw [hp]; nofun
    · have hpos : 0 < (v.core.srem - 1).toNat := by bv_omega
      simpa only [State.RangesOk, hp] using hpos

theorem completes_storedByte (hp : v.core.phase = .sCopy) (b : Byte) : v.Completes (exec (.stored (.byte b)) v) := by
  obtain ⟨hm, hd, huc⟩ := moves_countStored hA hp
  exact completes_windowWrite b hA hm hd huc

/-! ## Dynamic headers -/

include hu

theorem completes_hlit (hp : v.core.phase = .dHlit) (x : BitVec 5) : v.Completes (exec (.dynhdr (.hlit x)) v) := by
  have hr : 257 ≤ (x.setWidth 9 + 257#9).toNat ∧ (x.setWidth 9 + 257#9).toNat ≤ 288 := by constructor <;> bv_omega
  exact completes_moves (moves_of_core _ _ _ hA.inWait rfl fun _ => by rw [hp]; rfl)
    ⟨nofun, fun _ => hu.dynamic (by rw [hp]; rfl), hr⟩

theorem completes_hdist (hp : v.core.phase = .dHdist) (x : BitVec 5) : v.Completes (exec (.dynhdr (.hdist x)) v) := by
  have hr : 1 ≤ (x.setWidth 6 + 1#6).toNat ∧ (x.setWidth 6 + 1#6).toNat ≤ 32 := by constructor <;> bv_omega
  have hl := hu.ranges
  simp only [State.RangesOk, hp] at hl
  exact completes_moves (moves_of_core _ _ _ hA.inWait rfl fun _ => by rw [hp]; rfl)
    ⟨nofun, fun _ => hu.dynamic (by rw [hp]; rfl), hl.1, hl.2, hr⟩

theorem completes_hclen (hp : v.core.phase = .dHclen) (x : BitVec 4) : v.Completes (exec (.dynhdr (.hclen x)) v) := by
  have hr : 4 ≤ (x.setWidth 5 + 4#5).toNat ∧ (x.setWidth 5 + 4#5).toNat ≤ 19 := by constructor <;> bv_omega
  have hl := hu.ranges
  simp only [State.RangesOk, hp] at hl
  obtain ⟨hlit, -, hdist, -⟩ := hl
  show v.Completes (.next (takeHclen x v))
  unfold takeHclen
  split_ifs with hc
  · exact completes_raise _ _ _ rfl
  · rw [not_or, Nat.not_lt, Nat.not_lt] at hc
    have hidx : (0 : BitVec 5).toNat < (x.setWidth 5 + 4#5).toNat := Nat.lt_of_lt_of_le (by decide) hr.1
    exact completes_moves (moves_of_core _ _ _ hA.inWait rfl fun _ => by rw [hp]; rfl)
      ⟨nofun, fun _ => hu.dynamic (by rw [hp]; rfl), ⟨hlit, hc.1, hdist, hc.2⟩, hr.1, hr.2, hidx⟩

theorem completes_clLenField (hp : v.core.phase = .dCllen) (x : BitVec 3) :
    v.Completes (exec (.dynhdr (.clLen x)) v) := by
  have hl := hu.ranges
  simp only [State.RangesOk, hp] at hl
  obtain ⟨hcounts, h4, h19, hidx⟩ := hl
  have hlt : v.core.clidx.toNat < clOrder.length := Nat.lt_of_lt_of_le hidx h19
  show v.Completes (takeClLen x v)
  unfold takeClLen
  rw [List.getElem?_eq_getElem hlt]
  have hd : v.core.phase.decoding = true := by rw [hp]; rfl
  have hdyn := hu.dynamic (by rw [hp]; rfl)
  by_cases he : v.core.clidx + 1 = v.core.hclen
  · rw [if_pos he]
    exact completes_moves (moves_of_core _ _ _ hA.inWait rfl fun _ => hd) ⟨nofun, fun _ => hdyn, hcounts⟩
  · rw [if_neg he, hp]
    have hnext : (v.core.clidx + 1).toNat < v.core.hclen.toNat := by bv_omega
    exact completes_moves (moves_of_core _ _ _ hA.inWait rfl fun _ => hd)
      ⟨nofun, fun _ => hdyn, hcounts, h4, h19, hnext⟩

theorem completes_clBuild (hp : v.core.phase = .dClbuild) : v.Completes (exec (.dynhdr .build) v) := by
  have hcounts := hu.ranges
  simp only [State.RangesOk, hp] at hcounts
  show v.Completes (.next (buildCodeLengthTable v))
  unfold buildCodeLengthTable
  rcases buildDynamic_cases .cl v.clLengths v with h | ⟨-, h⟩ | ⟨-, h⟩ | ⟨-, h⟩ <;> rw [h]
  · have hpos : (0 : BitVec 9).toNat < v.core.hlit.toNat + v.core.hdist.toNat :=
      Nat.lt_of_lt_of_le (by decide) (Nat.le_add_right_of_le hcounts.1)
    have hwithin : (buildTable v.clLengths).within .cl := buildTable_within (by simp [State.clLengths, Alphabet.size])
    exact completes_moves (moves_of_core _ _ _ hA.inWait rfl fun _ => by rw [hp]; rfl)
      ⟨nofun, fun _ => hu.dynamic (by rw [hp]; rfl), hcounts, hpos, hwithin⟩
  all_goals exact completes_raise _ _ _ rfl

theorem completes_symbolTables (hp : v.core.phase = .dBuild) : v.Completes (.next (buildSymbolTables v)) := by
  have hl := hu.ranges
  simp only [State.RangesOk, hp] at hl
  obtain ⟨⟨-, hlit, -, hdist⟩, -⟩ := hl
  unfold buildSymbolTables
  rcases buildDynamic_cases .ll v.litLengths v with h | ⟨-, h⟩ | ⟨-, h⟩ | ⟨-, h⟩ <;> rw [h]
  · rcases buildDynamic_cases .dist v.distLengths v with h' | ⟨-, h'⟩ | ⟨-, h'⟩ | ⟨-, h'⟩ <;> rw [h']
    · have hlt : (buildTable v.litLengths).within .ll :=
        buildTable_within (by simp [State.litLengths, Alphabet.size]; omega)
      have hdt : (buildTable v.distLengths).within .dist :=
        buildTable_within (by simp [State.distLengths, Alphabet.size]; omega)
      exact completes_moves (moves_of_core _ _ _ hA.inWait rfl fun _ => by rw [hp]; rfl) ⟨nofun, nofun, hlt, hdt⟩
    all_goals exact completes_raise _ _ _ rfl
  all_goals exact completes_raise _ _ _ rfl

end

/-! ## Code lengths -/

theorem lengthTotal_le {s : State} (h : s.CountsOk) : s.lengthTotal ≤ 316 := by
  obtain ⟨-, hlit, -, hdist⟩ := h
  unfold State.lengthTotal
  omega

section
variable {v : State} (hA : v.Acting) (hu : v.Underway)
include hA hu

/-- Lengths that stay within `HLIT + HDIST` are stored, and the header goes on or is complete (spec/42_block.md R166,
R170). -/
theorem completes_storeLengths (hd : v.core.phase.decoding = true) (hy : v.core.phase.inDynamicHeader = true)
    (hc : v.CountsOk) (ht : v.core.tblCl.within .cl) (r : Nat) (x : BitVec 4)
    (hr : v.core.lidx.toNat + r ≤ v.lengthTotal) : v.Completes (storeLengths r x v) := by
  have htotal := lengthTotal_le hc
  rcases storeLengths_cases r x v with ⟨-, t, he, hs⟩ | ⟨hgt, -⟩
  · have hl : t.core.lidx.toNat = v.core.lidx.toNat + r := by
      rw [hs.lidx, BitVec.toNat_add, BitVec.toNat_ofNat, Nat.mod_eq_of_lt (by omega), Nat.mod_eq_of_lt (by omega)]
    have hsel : t.core.curLit = .dyn ∧ t.core.curDist = .dyn := by
      rw [hs.frame]
      exact hu.dynamic hy
    have hcounts : t.CountsOk := by
      rw [hs.frame]
      exact hc
    have hsum : t.lengthTotal = v.lengthTotal := by
      rw [hs.frame]
      rfl
    have htbl : t.core.tblCl.within .cl := by
      rw [hs.frame]
      exact ht
    have hm : v.Moves t := by
      rw [hs.frame]
      exact moves_of_core _ _ _ hA.inWait rfl fun _ => hd
    rw [he]
    by_cases hend : v.core.lidx.toNat + r = v.lengthTotal
    · obtain ⟨hp, -, -⟩ := hs.finished hend
      refine completes_moves hm ⟨by rw [hp]; nofun, fun _ => hsel, ?_⟩
      simp only [State.RangesOk, hp]
      exact ⟨hcounts, by rw [hl, hsum, hend]⟩
    · obtain ⟨hp, -, -⟩ := hs.goesOn hend
      refine completes_moves hm ⟨by rw [hp]; nofun, fun _ => hsel, ?_⟩
      simp only [State.RangesOk, hp]
      exact ⟨hcounts, by omega, htbl⟩
  · omega

theorem completes_repeatLengths (hp : v.core.phase = .dRepeat) (r : Nat) (x : BitVec 4) :
    v.Completes (repeatLengths r x v) := by
  have hl := hu.ranges
  simp only [State.RangesOk, hp] at hl
  obtain ⟨hc, -, ht, -, -⟩ := hl
  rcases repeatLengths_cases r x v with ⟨-, he⟩ | ⟨hr, he⟩ <;> rw [he]
  · exact completes_raise _ _ _ rfl
  · exact completes_storeLengths hA hu (by rw [hp]; rfl) (by rw [hp]; rfl) hc ht r x hr

/-- The symbols of the code-length alphabet (spec/42_block.md R166 to R169). -/
theorem completes_clSymbol (hp : v.core.phase = .dLensym) {sym : Nat} (hs : sym < Alphabet.cl.size) :
    ∃ i, symbolInstr .cl sym = some i ∧ v.Completes (exec i v) := by
  have hd : v.core.phase.decoding = true := by rw [hp]; rfl
  have hy : v.core.phase.inDynamicHeader = true := by rw [hp]; rfl
  have hl := hu.ranges
  simp only [State.RangesOk, hp] at hl
  obtain ⟨hc, hlt, ht⟩ := hl
  have begins : ∀ r : BitVec 5, 16 ≤ r.toNat → r.toNat ≤ 18 → v.Completes (.next (v.beginRepeat r)) := by
    intro r h16 h18
    exact completes_moves (moves_of_core _ _ _ hA.inWait rfl fun _ => hd)
      ⟨nofun, fun _ => hu.dynamic hy, hc, hlt, ht, h16, h18⟩
  have hentry : entryOf .cl sym = some (.value sym) := if_pos hs
  simp only [symbolInstr, hentry]
  split_ifs
  · exact ⟨_, rfl, completes_storeLengths hA hu hd hy hc ht 1 _ hlt⟩
  · refine ⟨_, rfl, ?_⟩
    show v.Completes (execClRepPrev .code v)
    simp only [execClRepPrev]
    split_ifs
    · exact completes_raise _ _ _ rfl
    · exact begins 16 (by decide) (by decide)
  · exact ⟨_, rfl, begins 17 (by decide) (by decide)⟩
  · exact ⟨_, rfl, begins 18 (by decide) (by decide)⟩

end

/-! ## The meanings of length and distance symbols -/

theorem lengthRow_bounds {m x base : Nat} (h : lengthRow m = some (x, base)) :
    257 ≤ m ∧ m ≤ 285 ∧ x ≤ 5 ∧ 3 ≤ base ∧ base + 2 ^ x ≤ 259 := by
  have hrows : ∀ row ∈ lengthRows, row.1 ≤ 5 ∧ 3 ≤ row.2 ∧ row.2 + 2 ^ row.1 ≤ 259 := by decide
  unfold lengthRow at h
  split_ifs at h with hm
  obtain ⟨hx, hb, hsum⟩ := hrows _ (List.mem_of_getElem? h)
  obtain ⟨hlt, -⟩ := List.getElem?_eq_some_iff.1 h
  have hlen : lengthRows.length = 29 := rfl
  exact ⟨by omega, by omega, hx, hb, hsum⟩

theorem distanceRow_bounds {d x base : Nat} (h : distanceRow d = some (x, base)) :
    d ≤ 29 ∧ x ≤ 13 ∧ 1 ≤ base ∧ base + 2 ^ x ≤ 32769 := by
  have hrows : ∀ row ∈ distanceRows, row.1 ≤ 13 ∧ 1 ≤ row.2 ∧ row.2 + 2 ^ row.1 ≤ 32769 := by decide
  obtain ⟨hx, hb, hsum⟩ := hrows _ (List.mem_of_getElem? h)
  obtain ⟨hlt, -⟩ := List.getElem?_eq_some_iff.1 h
  have hlen : distanceRows.length = 30 := rfl
  exact ⟨by omega, hx, hb, hsum⟩

/-- The two instructions of a length symbol are the two actions of its row (spec/43_symbols.md R183 to R213). -/
theorem exec_lengthInstrs {m x base : Nat} {code : Instr} {extra : Nat → Instr} (hr : lengthRow m = some (x, base))
    (hi : lengthInstrs[m - 257]? = some (code, extra)) :
    (∀ s, exec code s = .next (lengthElement (x := x) (BitVec.ofNat 9 m) base .code s)) ∧
    ∀ e s, exec (extra e) s = .next (lengthElement (BitVec.ofNat 9 m) base (.extra (BitVec.ofNat x e)) s) := by
  obtain ⟨h1, h2, -⟩ := lengthRow_bounds hr
  interval_cases m <;> cases hr <;> cases hi <;> exact ⟨fun _ => rfl, fun _ _ => rfl⟩

/-- The three instructions of a distance symbol are the three actions of its row (spec/43_symbols.md R214 to R247). -/
theorem exec_distanceInstrs {d x base : Nat} {code copy : Instr} {extra : Nat → Instr}
    (hr : distanceRow d = some (x, base)) (hi : distanceInstrs[d]? = some (code, extra, copy)) :
    (∀ s, exec code s = distanceElement (x := x) (BitVec.ofNat 5 d) base .code s) ∧
    (∀ e s, exec (extra e) s = distanceElement (BitVec.ofNat 5 d) base (.extra (BitVec.ofNat x e)) s) ∧
    ∀ s, exec copy s = copyByte s := by
  obtain ⟨h1, -⟩ := distanceRow_bounds hr
  interval_cases d <;> cases hr <;> cases hi <;> exact ⟨fun _ => rfl, fun _ _ => rfl, fun _ => rfl⟩

theorem length_lengthInstrs : lengthInstrs.length = 29 := rfl

theorem length_distanceInstrs : distanceInstrs.length = 30 := rfl

theorem symbolInstr_length {m x base : Nat} (hr : lengthRow m = some (x, base)) :
    ∃ code extra, lengthInstrs[m - 257]? = some (code, extra) ∧ symbolInstr .ll m = some code := by
  obtain ⟨h1, h2, -⟩ := lengthRow_bounds hr
  have hlt : m - 257 < lengthInstrs.length := by rw [length_lengthInstrs]; omega
  obtain ⟨p, hi⟩ : ∃ p, lengthInstrs[m - 257]? = some p := ⟨_, List.getElem?_eq_getElem hlt⟩
  refine ⟨p.1, p.2, hi, ?_⟩
  have hentry : entryOf .ll m = some (.length x base) := by
    simp only [entryOf, hr, if_neg (show ¬ m < 256 by omega), if_neg (show ¬ m = 256 by omega)]
  simp only [symbolInstr, hentry, hi, Option.map_some]

theorem symbolInstr_distance {d x base : Nat} (hr : distanceRow d = some (x, base)) :
    ∃ code extra copy, distanceInstrs[d]? = some (code, extra, copy) ∧ symbolInstr .dist d = some code := by
  obtain ⟨h1, -⟩ := distanceRow_bounds hr
  have hlt : d < distanceInstrs.length := by rw [length_distanceInstrs]; omega
  obtain ⟨p, hi⟩ : ∃ p, distanceInstrs[d]? = some p := ⟨_, List.getElem?_eq_getElem hlt⟩
  refine ⟨p.1, p.2.1, p.2.2, hi, ?_⟩
  simp only [symbolInstr, entryOf, hr, hi, Option.map_some]

theorem exists_lengthRow {m : Nat} (h1 : 257 ≤ m) (h2 : m ≤ 285) : ∃ x base, lengthRow m = some (x, base) := by
  have hlen : lengthRows.length = 29 := rfl
  have hlt : m - 257 < lengthRows.length := by omega
  obtain ⟨p, hp⟩ : ∃ p, lengthRows[m - 257]? = some p := ⟨_, List.getElem?_eq_getElem hlt⟩
  exact ⟨p.1, p.2, (if_neg (show ¬ m < 257 by omega)).trans hp⟩

theorem exists_distanceRow {d : Nat} (h : d ≤ 29) : ∃ x base, distanceRow d = some (x, base) := by
  have hlen : distanceRows.length = 30 := rfl
  have hlt : d < distanceRows.length := by omega
  obtain ⟨p, hp⟩ : ∃ p, distanceRows[d]? = some p := ⟨_, List.getElem?_eq_getElem hlt⟩
  exact ⟨p.1, p.2, hp⟩

/-! ## The trailer -/

/-- A comparison of the trailer raises or ends the command (spec/44_window_crc.md R269). -/
theorem completes_compareTrailer {v u : State} (hm : v.Moves u) (hx : u.core.phase = .xDone) :
    v.Completes (.next ({ u with state := .done } : State).compareTrailer) := by
  rcases compareTrailer_cases { u with state := .done } with ⟨-, he⟩ | ⟨-, -, he⟩ | ⟨-, -, he⟩ <;> rw [he]
  · exact completes_raise _ _ _ hm.window
  · exact completes_raise _ _ _ hm.window
  · exact ⟨_, rfl, .finishes (u := u) true hm hx⟩

/-- The trailer's byte goes to one of the declared values, and `TIDX` advances (spec/45_host.md R287). -/
theorem putTrailerByte_eq (v : State) (b : Byte) : ∃ cr ln, v.putTrailerByte b =
    { v with declCrc := cr, declLen := ln, core.tidx := v.core.tidx + 1 } := by
  unfold State.putTrailerByte
  split_ifs
  · exact ⟨_, v.declLen, rfl⟩
  · exact ⟨v.declCrc, _, rfl⟩

/-! ## Literal/length and distance symbols -/

section
variable {v : State} (hA : v.Acting)
include hA

theorem completes_lengthExtra (hd : v.core.phase.decoding = true) (ht : v.TablesOk) {m x base : Nat}
    (hr : lengthRow m = some (x, base)) (e : BitVec x) :
    v.Completes (.next (lengthElement (BitVec.ofNat 9 m) base (.extra e) v)) := by
  obtain ⟨-, -, -, hb, hsum⟩ := lengthRow_bounds hr
  have he := e.isLt
  have hlen : (BitVec.ofNat 9 (base + e.toNat)).toNat = base + e.toNat := by
    rw [BitVec.toNat_ofNat, Nat.mod_eq_of_lt (by omega)]
  have h3 : 3 ≤ (BitVec.ofNat 9 (base + e.toNat)).toNat := by omega
  have h258 : (BitVec.ofNat 9 (base + e.toNat)).toNat ≤ 258 := by omega
  exact completes_moves (moves_of_core _ _ _ hA.inWait rfl fun _ => hd) ⟨nofun, nofun, ht, h3, h258⟩

/-- The symbols of the literal/length alphabet (spec/43_symbols.md R181 to R184). -/
theorem completes_llSymbol (hu : v.Underway) (hp : v.core.phase = .lSym) {sym : Nat} (hs : sym < Alphabet.ll.size) :
    ∃ i, symbolInstr .ll sym = some i ∧ v.Completes (exec i v) := by
  have hd : v.core.phase.decoding = true := by rw [hp]; rfl
  have ht := hu.ranges
  simp only [State.RangesOk, hp] at ht
  have hs' : sym < 288 := hs
  rcases Nat.lt_or_ge sym 256 with hlit | hge
  · have hm : v.Moves v.clearCode := moves_of_core _ _ _ hA.inWait rfl id
    have hu' : v.clearCode.Underway := by
      refine ⟨hu.goesOn, hu.dynamic, ?_⟩
      simp only [State.RangesOk, State.clearCode_core, hp]
      exact ht
    exact ⟨.lit (BitVec.ofNat 8 sym), by simp [symbolInstr, entryOf, hlit], completes_windowWrite _ hA hm hd hu'⟩
  · rcases Nat.eq_or_lt_of_le hge with rfl | hgt
    · obtain ⟨hm, -, hue⟩ := moves_endOfBlock hA hd
      exact ⟨.eob, rfl, completes_moves hm hue⟩
    · rcases Nat.lt_or_ge 285 sym with hinv | hle
      · obtain rfl | rfl : sym = 286 ∨ sym = 287 := by omega
        · exact ⟨.llInvalid286, rfl, completes_raise _ _ _ rfl⟩
        · exact ⟨.llInvalid287, rfl, completes_raise _ _ _ rfl⟩
      · obtain ⟨x, base, hr⟩ := exists_lengthRow hgt hle
        obtain ⟨code, extra, hi, hsym⟩ := symbolInstr_length hr
        obtain ⟨hcode, -⟩ := exec_lengthInstrs hr hi
        have hm : (BitVec.ofNat 9 sym).toNat = sym := by rw [BitVec.toNat_ofNat, Nat.mod_eq_of_lt (by omega)]
        have h1 : 257 ≤ (BitVec.ofNat 9 sym).toNat := by omega
        have h2 : (BitVec.ofNat 9 sym).toNat ≤ 285 := by omega
        refine ⟨code, hsym, ?_⟩
        rw [hcode v]
        exact completes_moves (moves_of_core _ _ _ hA.inWait rfl fun _ => hd) ⟨nofun, nofun, ht, h1, h2⟩

/-- The symbols of the distance alphabet (spec/43_symbols.md R214, R216). -/
theorem completes_distSymbol (hu : v.Underway) (hp : v.core.phase = .lDsym) {sym : Nat}
    (hs : sym < Alphabet.dist.size) : ∃ i, symbolInstr .dist sym = some i ∧ v.Completes (exec i v) := by
  have hl := hu.ranges
  simp only [State.RangesOk, hp] at hl
  obtain ⟨ht, h3, h258⟩ := hl
  have hs' : sym < 32 := hs
  rcases Nat.lt_or_ge 29 sym with hinv | hle
  · obtain rfl | rfl : sym = 30 ∨ sym = 31 := by omega
    · exact ⟨.distInvalid30, rfl, completes_raise _ _ _ rfl⟩
    · exact ⟨.distInvalid31, rfl, completes_raise _ _ _ rfl⟩
  · obtain ⟨x, base, hr⟩ := exists_distanceRow hle
    obtain ⟨code, extra, copy, hi, hsym⟩ := symbolInstr_distance hr
    obtain ⟨hcode, -, -⟩ := exec_distanceInstrs hr hi
    have h29 : (BitVec.ofNat 5 sym).toNat ≤ 29 := by rw [BitVec.toNat_ofNat, Nat.mod_eq_of_lt (by omega)]; exact hle
    refine ⟨code, hsym, ?_⟩
    rw [hcode v]
    exact completes_moves (moves_of_core _ _ _ hA.inWait rfl fun _ => by rw [hp]; rfl)
      ⟨nofun, nofun, ht, h3, h258, h29⟩

/-- The distance's extra field starts the copy, or the distance is too far (spec/43_symbols.md R215). -/
theorem completes_distExtra (hu : v.Underway) (hp : v.core.phase = .lDistx) {d x base : Nat}
    (hr : distanceRow d = some (x, base)) (e : BitVec x) :
    v.Completes (distanceElement (BitVec.ofNat 5 d) base (.extra e) v) := by
  have hl := hu.ranges
  simp only [State.RangesOk, hp] at hl
  obtain ⟨ht, h3, h258, h29⟩ := hl
  obtain ⟨-, -, hb, hsum⟩ := distanceRow_bounds hr
  have he := e.isLt
  have hdist : (BitVec.ofNat 16 (base + e.toNat)).toNat = base + e.toNat := by
    rw [BitVec.toNat_ofNat, Nat.mod_eq_of_lt (by omega)]
  have h1 : 1 ≤ (BitVec.ofNat 16 (base + e.toNat)).toNat := by omega
  have hw : (BitVec.ofNat 16 (base + e.toNat)).toNat ≤ Config.windowSize := by simp only [Config.windowSize]; omega
  show v.Completes (.next (takeDistance (BitVec.ofNat 16 (base + e.toNat)) v))
  unfold takeDistance
  split_ifs with hfar
  · exact completes_raise _ _ _ rfl
  · have hnear : v.config.distTooFar = .fault →
        (BitVec.ofNat 16 (base + e.toNat)).toNat ≤ v.core.haveCount.toNat :=
      fun hf => Nat.not_lt.1 fun hlt => hfar ⟨hlt, hf⟩
    exact completes_moves (moves_of_core _ _ _ hA.inWait rfl fun _ => by rw [hp]; rfl)
      ⟨nofun, nofun, ht, Nat.le_trans (by decide) h3, h258, h29, h1, hw, hnear⟩

/-- One byte of a match is copied (spec/43_symbols.md R247). -/
theorem completes_copyByte (hu : v.Underway) (hp : v.core.phase = .lCopy) : v.Completes (copyByte v) := by
  have hd : v.core.phase.decoding = true := by rw [hp]; rfl
  have hl := hu.ranges
  simp only [State.RangesOk, hp] at hl
  obtain ⟨ht, h1, h258, h29, hd1, hdw, hnear⟩ := hl
  unfold copyByte State.countMatch
  split_ifs with hz
  · exact completes_windowWrite _ hA (moves_of_core _ _ _ hA.inWait rfl fun _ => hd) rfl ⟨nofun, nofun, ht⟩
  · have h1' : 1 ≤ (v.core.mrem - 1).toNat := by bv_omega
    have h258' : (v.core.mrem - 1).toNat ≤ 258 := by bv_omega
    refine completes_windowWrite _ hA (moves_of_core _ _ _ hA.inWait rfl id) hd ⟨hu.goesOn, hu.dynamic, ?_⟩
    simp only [State.RangesOk, hp]
    exact ⟨ht, h1', h258', h29, hd1, hdw, hnear⟩

/-! ## The first bit of a header, the end of the stream, and the byte actions of commands -/

theorem completes_endStream : v.Completes (.next (endStream v)) := by
  have hm : v.Moves (v.alignToByte.goto .xDone) :=
    (moves_alignToByte hA.inWait).trans (moves_goto (hA.moves (moves_alignToByte hA.inWait)) _ nofun)
  unfold endStream
  split_ifs
  · exact ⟨_, rfl, .flushes hm rfl⟩
  · exact ⟨_, rfl, .finishes v.verified hm rfl⟩

theorem completes_readByte (b : Byte) : v.Completes (exec (.readByte (.byte b)) v) :=
  ⟨_, rfl, .finishes (u := { v.goto .xDone with core.data := b }) v.verified
    (moves_of_core _ _ _ hA.inWait rfl nofun) rfl⟩

theorem completes_trailerByte (hu : v.Underway) (hp : v.core.phase = .cTrailer) (b : Byte) :
    v.Completes (exec (.checkTrailer (.byte b)) v) := by
  have hl := hu.ranges
  simp only [State.RangesOk, hp] at hl
  obtain ⟨cr, ln, hput⟩ := putTrailerByte_eq v b
  show v.Completes (execCheckTrailer (.byte b) v)
  simp only [execCheckTrailer, hput]
  split_ifs with h8
  · exact completes_compareTrailer (moves_of_core _ _ _ hA.inWait rfl nofun) rfl
  · have hnext : (v.core.tidx + 1).toNat < 8 := by bv_omega
    refine completes_moves (moves_of_core _ _ _ hA.inWait rfl id) ⟨hu.goesOn, hu.dynamic, ?_⟩
    simp only [State.RangesOk, hp]
    exact hnext

theorem completes_readBfinal {u : State} (hp : u.core.phase = .hBfinal) (hv : v = u.dropBits 1) :
    v.Completes (.next (readBfinal u)) := by
  subst hv
  exact completes_moves (moves_of_core _ _ _ hA.inWait rfl fun _ => by rw [State.dropBits_core, hp]; rfl)
    ⟨nofun, nofun, trivial⟩

end

/-! ## Where an action starts -/

/-- The bits required are those of the phase and its registers, whatever is held. -/
theorem needed_prepared (s : State) : s.prepared.needed = s.needed := by
  by_cases h : s.core.phase = .cRdbyte
  · rw [prepared_of_rdbyte h]; rfl
  · rw [prepared_of_ne h]

theorem needed_of_ctx {s : State} {c : Ctx} (h : State.ctx s = some c) : s.needed = c.width := by
  simp only [State.needed, h]

theorem repeatWidth_le (r : Nat) : repeatWidth r ≤ 7 := by
  unfold repeatWidth
  split_ifs <;> decide

/-- No action but a command's requires more than 16 bits (spec/40_bitreader.md R100). -/
theorem Ctx.width_le {c : Ctx} (h : c ≠ .command) : c.width ≤ 16 := by
  cases c with
  | command => exact absurd rfl h
  | symbol a t hcode hcnt =>
    simp only [Ctx.width]
    split_ifs <;> decide
  | repeatExtra r => exact (repeatWidth_le r).trans (by decide)
  | lengthExtra m =>
    cases hr : lengthRow m with
    | none => simp [Ctx.width, hr]
    | some row =>
      obtain ⟨-, -, hx, -⟩ := lengthRow_bounds hr
      simp only [Ctx.width, hr, Option.map_some, Option.getD_some]
      omega
  | distExtra d =>
    cases hr : distanceRow d with
    | none => simp [Ctx.width, hr]
    | some row =>
      obtain ⟨-, hx, -⟩ := distanceRow_bounds hr
      simp only [Ctx.width, hr, Option.map_some, Option.getD_some]
      omega
  | _ => simp [Ctx.width]

theorem ctx_ne_command (s : State) : State.ctx s ≠ some .command := by
  unfold State.ctx
  split <;> nofun

theorem needed_le (s : State) : s.needed ≤ 16 := by
  cases hc : State.ctx s with
  | none =>
    simp only [State.needed, hc]
    split_ifs <;> decide
  | some c =>
    rw [needed_of_ctx hc]
    exact Ctx.width_le fun h => ctx_ne_command s (h ▸ hc)

/-- Aligning and clearing `IN_WAIT` is a move. -/
theorem moves_prepared (s : State) : s.Moves { s.prepared with inWait := false } := by
  by_cases h : s.core.phase = .cRdbyte
  · rw [prepared_of_rdbyte h]
    obtain ⟨hheld, hcnt, hbuf, -, -⟩ := ahead_dropBits (s := s) (Nat.mod_le s.core.bitcnt.toNat 8)
    exact ⟨rfl, rfl, rfl, rfl, rfl, rfl, rfl, id, _, hheld, hcnt, hbuf, rfl, rfl⟩
  · rw [prepared_of_ne h]
    exact ⟨rfl, rfl, rfl, rfl, rfl, rfl, rfl, id, 0, Nat.zero_le _, rfl, by simp, rfl, rfl⟩

theorem State.Underway.prepared {s : State} (h : s.Underway) :
    ({ s.prepared with inWait := false } : State).Underway := by
  by_cases hp : s.core.phase = .cRdbyte
  · rw [prepared_of_rdbyte hp]
    exact ⟨h.goesOn, h.dynamic, h.ranges⟩
  · rw [prepared_of_ne hp]
    exact ⟨h.goesOn, h.dynamic, h.ranges⟩

theorem phase_prepared (s : State) : s.prepared.core.phase = s.core.phase := by
  by_cases h : s.core.phase = .cRdbyte
  · rw [prepared_of_rdbyte h]; rfl
  · rw [prepared_of_ne h]

/-- At most 7 bits are held beyond those an action requires (spec/10_state.md R22). -/
theorem State.Inv.bitcnt_prepared_lt {s : State} (h : s.Inv) (hb : s.state = .busy) :
    s.prepared.core.bitcnt.toNat < s.needed + 8 := by
  obtain ⟨-, hr, -⟩ := h.okBusy hb
  obtain ⟨k, hk⟩ := (moves_prepared s).reader
  have hle : s.prepared.core.bitcnt.toNat = s.core.bitcnt.toNat - k := hk.bitcnt
  have := hr.count
  omega

/-- Outside `H_BTYPE` the decoder is given the bits required. -/
theorem instrBits_of_ne {s : State} (h : s.core.phase ≠ .hBtype) : s.instrBits = s.heldBits.take s.needed := by
  unfold State.instrBits
  split
  · next he => exact absurd he h
  · rfl

/-- One code bit of a symbol: a symbol of the alphabet, an invalid code, or more bits to come (spec/41_huffman.md R131,
R133). -/
theorem decodeCode_one {a : Alphabet} {t : Table} (ht : t.within a) (x : BitVec 15) (m : BitVec 4) (b : Bool) :
    (∃ sym, sym < a.size ∧ decodeCode t a x m [b] = .ok (sym, 1)) ∨
    decodeCode t a x m [b] = .error (.invalidCode a.errTable) ∨ decodeCode t a x m [b] = .error (.needBits 1) := by
  simp only [decodeCode]
  cases hl : t.lookup (m + 1).toNat (pushBit x b).toNat with
  | some sym => exact .inl ⟨sym, ht.lookup hl, rfl⟩
  | none =>
    dsimp only
    split_ifs
    · exact .inr (.inl rfl)
    · exact .inr (.inr rfl)

section
variable {s : State} (h : s.Inv) (hb : s.state = .busy) (hn : s.needed ≤ s.prepared.core.bitcnt.toNat)
include h hb hn

/-- The bits required are removed from those held. -/
theorem starts_dropBits : s.Starts (({ s.prepared with inWait := false } : State).dropBits s.needed) where
  moves := (moves_prepared s).trans (moves_dropBits rfl hn)
  few := by
    have := h.bitcnt_prepared_lt hb
    rw [State.dropBits_core, bitcnt_sub_toNat _ hn]
    omega
  phase := phase_prepared s
  underway := by
    have hu := (h.underway hb).prepared
    exact ⟨hu.goesOn, hu.dynamic, hu.ranges⟩

/-- One code bit goes from the held bits to `HCODE` (spec/41_huffman.md R131). -/
theorem starts_takeCodeBit (h1 : s.needed = 1) :
    s.Starts ({ s.prepared with inWait := false } : State).takeCodeBit where
  moves := by
    have hm : s.Moves (({ s.prepared with inWait := false } : State).dropBits 1) := by
      rw [← h1]
      exact (starts_dropBits h hb hn).moves
    exact hm.trans (moves_of_core _ _ _ rfl rfl id)
  few := by
    have hfew := (starts_dropBits h hb hn).few
    rw [h1] at hfew
    exact hfew
  phase := phase_prepared s
  underway := by
    have hu := (h.underway hb).prepared
    exact ⟨hu.goesOn, hu.dynamic, hu.ranges⟩

/-! ## Decoding what is held -/

/-- An element that is no symbol's code starts with its bits removed. -/
theorem completes_element {c : Ctx} {i : Instr} {k : Nat} (hc : State.ctx s = some c)
    (hsym : ∀ a t x m, c ≠ .symbol a t x m) (hd : decode c s.prepared.instrBits = .ok (i, k))
    (hex : ∀ v, s.Starts v → v.Completes (exec i v)) : ∃ v, s.Starts v ∧ v.Completes (coreStep s) := by
  refine ⟨_, starts_dropBits h hb hn, ?_⟩
  have hcons : ({ s.prepared with inWait := false } : State).consumed =
      ({ s.prepared with inWait := false } : State).dropBits s.needed := by
    rw [← needed_prepared s]
    have hctx : State.ctx ({ s.prepared with inWait := false } : State) = some c := (ctx_prepared s).trans hc
    unfold State.consumed
    split
    · next he => exact absurd (Option.some.inj (hctx.symm.trans he)) (hsym _ _ _ _)
    · rfl
  rw [coreStep_of_decode hb hc (by rw [needed_prepared]; exact hn) hd, hcons]
  exact hex _ (starts_dropBits h hb hn)

/-- A field whose bits are held decodes to what some integer makes. -/
theorem completes_field {c : Ctx} {mk : Nat → Instr} (hc : State.ctx s = some c)
    (hsym : ∀ a t x m, c ≠ .symbol a t x m) (hp : s.core.phase ≠ .hBtype)
    (hd : ∀ bits, decode c bits = decodeField c.width mk bits)
    (hex : ∀ v x, s.Starts v → v.Completes (exec (mk x) v)) : ∃ v, s.Starts v ∧ v.Completes (coreStep s) := by
  have hbits : s.prepared.instrBits = s.prepared.heldBits.take c.width := by
    rw [← needed_of_ctx hc, ← needed_prepared s]
    exact instrBits_of_ne (by rw [phase_prepared]; exact hp)
  have hlen : ¬ s.prepared.instrBits.length < c.width := by
    rw [needed_of_ctx hc] at hn
    rw [hbits, List.length_take, length_heldBits]
    omega
  refine completes_element h hb hn hc hsym ((hd _).trans (if_neg hlen)) fun v hv => hex v _ hv

/-- A block header's three bits are held: the first in `BFINAL` (spec/42_block.md R150, R151). -/
theorem completes_headerField (hp : s.core.phase = .hBtype) : ∃ v, s.Starts v ∧ v.Completes (coreStep s) := by
  have hc : State.ctx s = some .header := by simp only [State.ctx, hp]
  have hbits : s.prepared.instrBits = s.core.bfinal :: s.heldBits.take 2 := by
    rw [prepared_of_ne (by rw [hp]; decide)]
    simp only [State.instrBits, hp]
  have hlen : ¬ s.prepared.instrBits.length < 3 := by
    rw [needed_of_ctx hc, prepared_of_ne (by rw [hp]; decide)] at hn
    have h2 : 2 ≤ s.core.bitcnt.toNat := hn
    rw [hbits, List.length_cons, List.length_take, length_heldBits]
    omega
  refine completes_element h hb hn hc nofun (if_neg hlen) fun v hv => ?_
  exact completes_header (h.acting hb hv) (hv.phase.trans hp) _

/-- A code bit of a symbol: it ends the code of a symbol of the alphabet, which is run, or it raises or goes on. -/
theorem completes_code {a : Alphabet} {t : Table} (hc : State.ctx s = some (.symbol a t s.core.hcode s.core.hcnt))
    (hp : s.core.phase ≠ .hBtype ∧ s.core.phase ≠ .cRdbyte) (ht : t.within a)
    (hex : ∀ v sym, s.Starts v → sym < a.size → ∃ i, symbolInstr a sym = some i ∧ v.Completes (exec i v)) :
    ∃ v, s.Starts v ∧ v.Completes (coreStep s) := by
  have hprep := prepared_of_ne hp.2
  have hact : coreStep s = coreAction { s with inWait := false } := by
    have := coreStep_act hb (by rw [needed_prepared]; exact hn)
    rwa [hprep] at this
  have hwidth := needed_of_ctx hc
  have hctx : State.ctx ({ s with inWait := false } : State) = some (.symbol a t s.core.hcode s.core.hcnt) := hc
  have hcons : ({ s with inWait := false } : State).consumed = ({ s with inWait := false } : State).takeCodeBit := by
    simp only [State.consumed, hctx]
  by_cases hst : t.status = .empty
  · refine ⟨_, starts_dropBits h hb hn, ?_⟩
    have hdec : ∀ bits, decode (.symbol a t s.core.hcode s.core.hcnt) bits = .error (.emptyTable a.errTable) :=
      fun bits => if_pos hst
    rw [hact, hprep]
    simp only [coreAction, hctx, hdec]
    exact completes_raise _ _ _ rfl
  · have h1 : s.needed = 1 := hwidth.trans (if_neg hst)
    have hlen : (s.heldBits.take s.needed).length = 1 := by
      rw [hprep] at hn
      rw [List.length_take, length_heldBits]
      omega
    obtain ⟨b, hbit⟩ := List.length_eq_one_iff.1 hlen
    have hbits : ({ s with inWait := false } : State).instrBits = [b] :=
      (instrBits_of_ne (s := { s with inWait := false }) hp.1).trans hbit
    have hstart := starts_takeCodeBit h hb hn h1
    refine ⟨_, hstart, ?_⟩
    rw [hact]
    rw [hprep] at hstart ⊢
    have hdec : decode (.symbol a t s.core.hcode s.core.hcnt) [b] = decodeSymbol a t s.core.hcode s.core.hcnt [b] := rfl
    simp only [coreAction, hctx, hbits, hdec, decodeSymbol, if_neg hst, hcons]
    rcases decodeCode_one ht s.core.hcode s.core.hcnt b with ⟨sym, hs, he⟩ | he | he
    · obtain ⟨i, hi, hcomp⟩ := hex _ sym hstart hs
      simp only [he, hi]
      exact hcomp
    · simp only [he]
      exact completes_raise _ _ _ rfl
    · simp only [he]
      exact completes_moves (moves_of_core _ _ _ rfl rfl id) hstart.underway

end

/-! ## Every action from a state that meets the invariant -/

theorem dropBits_zero (s : State) : s.dropBits 0 = s := by
  obtain ⟨c, _⟩ := s
  simp [State.dropBits]

/-- The extra field of a repeat symbol decodes to a repetition of a length (spec/42_block.md R170). -/
theorem decode_repeatExtra {r : Nat} (h16 : 16 ≤ r) (h18 : r ≤ 18) : ∃ mk : Nat → Instr,
    (∀ bits, decode (.repeatExtra r) bits = decodeField (Ctx.repeatExtra r).width mk bits) ∧
    ∀ x s, ∃ n l, exec (mk x) s = repeatLengths n l s := by
  obtain rfl | rfl | rfl : r = 16 ∨ r = 17 ∨ r = 18 := by omega
  · exact ⟨fun x => .clRepPrev (.extra (BitVec.ofNat 2 x)), fun _ => rfl, fun _ _ => ⟨_, _, rfl⟩⟩
  · exact ⟨fun x => .clRepZeroS (.extra (BitVec.ofNat 3 x)), fun _ => rfl, fun _ _ => ⟨_, _, rfl⟩⟩
  · exact ⟨fun x => .clRepZeroL (.extra (BitVec.ofNat 7 x)), fun _ => rfl, fun _ _ => ⟨_, _, rfl⟩⟩

section
variable {s : State} (h : s.Inv) (hb : s.state = .busy) (hn : s.needed ≤ s.prepared.core.bitcnt.toNat)
include h hb hn

/-- A phase that reads no element runs the engine's action (spec/42_block.md R150, R171, R173). -/
theorem completes_engine (hc : State.ctx s = none)
    (hex : ∀ u : State, u.core.phase = s.core.phase → s.Starts (u.dropBits s.needed) →
      (u.dropBits s.needed).Completes (.next (engineAction u))) :
    ∃ v, s.Starts v ∧ v.Completes (coreStep s) := by
  have hstart := starts_dropBits h hb hn
  refine ⟨_, hstart, ?_⟩
  rw [coreStep_act hb (by rw [needed_prepared]; exact hn)]
  have hctx : State.ctx ({ s.prepared with inWait := false } : State) = none := (ctx_prepared s).trans hc
  simp only [coreAction, hctx]
  exact hex _ (phase_prepared s) hstart

theorem completes_bfinalPhase (hp : s.core.phase = .hBfinal) :
    ∃ v, s.Starts v ∧ v.Completes (coreStep s) := by
  have hneed : s.needed = 1 := by simp [State.needed, State.ctx, hp]
  refine completes_engine h hb hn (by simp [State.ctx, hp]) fun u hpu hv => ?_
  rw [hp] at hpu
  simp only [engineAction, hpu]
  exact completes_readBfinal (h.acting hb hv) hpu (by rw [hneed])

theorem completes_buildPhase (hp : s.core.phase = .dBuild) :
    ∃ v, s.Starts v ∧ v.Completes (coreStep s) := by
  have hneed : s.needed = 0 := by simp [State.needed, State.ctx, hp]
  refine completes_engine h hb hn (by simp [State.ctx, hp]) fun u hpu hv => ?_
  rw [hneed, dropBits_zero] at hv ⊢
  rw [hp] at hpu
  simp only [engineAction, hpu]
  exact completes_symbolTables (h.acting hb hv) hv.underway hpu

theorem completes_endPhase (hp : s.core.phase = .fEnd) :
    ∃ v, s.Starts v ∧ v.Completes (coreStep s) := by
  have hneed : s.needed = 0 := by simp [State.needed, State.ctx, hp]
  refine completes_engine h hb hn (by simp [State.ctx, hp]) fun u hpu hv => ?_
  rw [hneed, dropBits_zero] at hv ⊢
  rw [hp] at hpu
  simp only [engineAction, hpu]
  exact completes_endStream (h.acting hb hv)

theorem completes_repeatPhase (hp : s.core.phase = .dRepeat) :
    ∃ v, s.Starts v ∧ v.Completes (coreStep s) := by
  have hr := (h.underway hb).ranges
  simp only [State.RangesOk, hp] at hr
  obtain ⟨-, -, -, h16, h18⟩ := hr
  obtain ⟨mk, hdec, hmk⟩ := decode_repeatExtra h16 h18
  refine completes_field h hb hn (c := .repeatExtra s.core.rsym.toNat) (by simp [State.ctx, hp]) nofun
    (by rw [hp]; decide) hdec fun v x hv => ?_
  obtain ⟨r, l, hrep⟩ := hmk x v
  rw [hrep]
  exact completes_repeatLengths (h.acting hb hv) hv.underway (hv.phase.trans hp) r l

theorem completes_lengthPhase (hp : s.core.phase = .lLenx) :
    ∃ v, s.Starts v ∧ v.Completes (coreStep s) := by
  have hr := (h.underway hb).ranges
  simp only [State.RangesOk, hp] at hr
  obtain ⟨-, h1, h2⟩ := hr
  obtain ⟨x, base, hrow⟩ := exists_lengthRow h1 h2
  obtain ⟨code, extra, hi, -⟩ := symbolInstr_length hrow
  obtain ⟨-, hextra⟩ := exec_lengthInstrs hrow hi
  refine completes_field h hb hn (c := .lengthExtra s.core.msym.toNat) (mk := extra) (by simp [State.ctx, hp]) nofun
    (by rw [hp]; decide) (fun _ => by simp [decode, Ctx.width, hrow, hi]) fun v e hv => ?_
  have hpv := hv.phase.trans hp
  have hrv := hv.underway.ranges
  simp only [State.RangesOk, hpv] at hrv
  rw [hextra]
  exact completes_lengthExtra (h.acting hb hv) (by rw [hpv]; rfl) hrv.1 hrow _

theorem completes_distancePhase (hp : s.core.phase = .lDistx) :
    ∃ v, s.Starts v ∧ v.Completes (coreStep s) := by
  have hr := (h.underway hb).ranges
  simp only [State.RangesOk, hp] at hr
  obtain ⟨-, -, -, h29⟩ := hr
  obtain ⟨x, base, hrow⟩ := exists_distanceRow h29
  obtain ⟨code, extra, copy, hi, -⟩ := symbolInstr_distance hrow
  obtain ⟨-, hextra, -⟩ := exec_distanceInstrs hrow hi
  refine completes_field h hb hn (c := .distExtra s.core.dsym.toNat) (mk := extra) (by simp [State.ctx, hp]) nofun
    (by rw [hp]; decide) (fun _ => by simp [decode, Ctx.width, hrow, hi]) fun v e hv => ?_
  rw [hextra]
  exact completes_distExtra (h.acting hb hv) hv.underway (hv.phase.trans hp) hrow _

theorem completes_copyPhase (hp : s.core.phase = .lCopy) :
    ∃ v, s.Starts v ∧ v.Completes (coreStep s) := by
  have hr := (h.underway hb).ranges
  simp only [State.RangesOk, hp] at hr
  obtain ⟨-, -, -, h29, -⟩ := hr
  obtain ⟨x, base, hrow⟩ := exists_distanceRow h29
  obtain ⟨code, extra, copy, hi, -⟩ := symbolInstr_distance hrow
  obtain ⟨-, -, hcopy⟩ := exec_distanceInstrs hrow hi
  refine completes_element h hb hn (c := .copy s.core.dsym.toNat) (i := copy) (k := 0) (by simp [State.ctx, hp]) nofun
    (by simp [decode, hi]) fun v hv => ?_
  rw [hcopy]
  exact completes_copyByte (h.acting hb hv) hv.underway (hv.phase.trans hp)

/-- A field whose width and meaning are the phase's alone. -/
theorem completes_phaseField {c : Ctx} {mk : Nat → Instr} {p : Phase}
    (hp : s.core.phase = p) (hc : State.ctx s = some c) (hplain : p ≠ .hBtype ∧ ∀ a t x m, c ≠ .symbol a t x m)
    (hd : ∀ bits, decode c bits = decodeField c.width mk bits)
    (hex : ∀ v : State, v.Acting → v.Underway → v.core.phase = p → ∀ x, v.Completes (exec (mk x) v)) :
    ∃ v, s.Starts v ∧ v.Completes (coreStep s) :=
  completes_field h hb hn hc hplain.2 (hp ▸ hplain.1) hd fun v x hv =>
    hex v (h.acting hb hv) hv.underway (hv.phase.trans hp) x

/-- Every core action of a state that meets the invariant goes on, with one of the effects of `State.Acts`: the phases
in the order of spec/10_state.md R25. -/
theorem coreStep_completes : ∃ v, s.Starts v ∧ v.Completes (coreStep s) := by
  have hu := h.underway hb
  have hr := hu.ranges
  cases hp : s.core.phase with
  | hBfinal => exact completes_bfinalPhase h hb hn hp
  | hBtype => exact completes_headerField h hb hn hp
  | sLen =>
    exact completes_phaseField h hb hn hp (c := .storedLen) (by simp [State.ctx, hp]) ⟨nofun, nofun⟩ (fun _ => rfl)
      fun v hA _ hpv _ => completes_storedLen hA hpv _
  | sNlen =>
    exact completes_phaseField h hb hn hp (c := .storedNlen) (by simp [State.ctx, hp]) ⟨nofun, nofun⟩ (fun _ => rfl)
      fun v hA _ hpv _ => completes_storedNlen hA hpv _
  | sCopy =>
    exact completes_phaseField h hb hn hp (c := .storedByte) (by simp [State.ctx, hp]) ⟨nofun, nofun⟩ (fun _ => rfl)
      fun v hA _ hpv _ => completes_storedByte hA hpv _
  | dHlit =>
    exact completes_phaseField h hb hn hp (c := .hlit) (by simp [State.ctx, hp]) ⟨nofun, nofun⟩ (fun _ => rfl)
      fun v hA huv hpv _ => completes_hlit hA huv hpv _
  | dHdist =>
    exact completes_phaseField h hb hn hp (c := .hdist) (by simp [State.ctx, hp]) ⟨nofun, nofun⟩ (fun _ => rfl)
      fun v hA huv hpv _ => completes_hdist hA huv hpv _
  | dHclen =>
    exact completes_phaseField h hb hn hp (c := .hclen) (by simp [State.ctx, hp]) ⟨nofun, nofun⟩ (fun _ => rfl)
      fun v hA huv hpv _ => completes_hclen hA huv hpv _
  | dCllen =>
    exact completes_phaseField h hb hn hp (c := .clLen) (by simp [State.ctx, hp]) ⟨nofun, nofun⟩ (fun _ => rfl)
      fun v hA huv hpv _ => completes_clLenField hA huv hpv _
  | dClbuild =>
    exact completes_element h hb hn (c := .clBuild) (by simp [State.ctx, hp]) nofun rfl
      fun v hv => completes_clBuild (h.acting hb hv) hv.underway (hv.phase.trans hp)
  | dLensym =>
    simp only [State.RangesOk, hp] at hr
    obtain ⟨-, -, ht⟩ := hr
    exact completes_code h hb hn (by simp [State.ctx, hp]) (by simp [hp]) ht
      fun v sym hv hs => completes_clSymbol (h.acting hb hv) hv.underway (hv.phase.trans hp) hs
  | dRepeat => exact completes_repeatPhase h hb hn hp
  | dBuild => exact completes_buildPhase h hb hn hp
  | lSym =>
    simp only [State.RangesOk, hp] at hr
    obtain ⟨ht, -⟩ := hr
    exact completes_code h hb hn (by simp [State.ctx, hp]) (by simp [hp]) ht
      fun v sym hv hs => completes_llSymbol (h.acting hb hv) hv.underway (hv.phase.trans hp) hs
  | lLenx => exact completes_lengthPhase h hb hn hp
  | lDsym =>
    simp only [State.RangesOk, hp] at hr
    obtain ⟨⟨-, ht⟩, -⟩ := hr
    exact completes_code h hb hn (by simp [State.ctx, hp]) (by simp [hp]) ht
      fun v sym hv hs => completes_distSymbol (h.acting hb hv) hv.underway (hv.phase.trans hp) hs
  | lDistx => exact completes_distancePhase h hb hn hp
  | lCopy => exact completes_copyPhase h hb hn hp
  | fEnd => exact completes_endPhase h hb hn hp
  | cRdbyte =>
    exact completes_phaseField h hb hn hp (c := .readByte) (by simp [State.ctx, hp]) ⟨nofun, nofun⟩ (fun _ => rfl)
      fun v hA _ _ _ => completes_readByte hA _
  | cTrailer =>
    exact completes_phaseField h hb hn hp (c := .trailerByte) (by simp [State.ctx, hp]) ⟨nofun, nofun⟩ (fun _ => rfl)
      fun v hA huv hpv _ => completes_trailerByte hA huv hpv _
  | xDone => exact absurd hp hu.goesOn

end

end Sys2Proof.Machine
end

section
/-! PROOF. Waiting for bits (spec/40_bitreader.md R100 to R105), and with it every core step: it keeps the invariant and
moves forward in the stream. -/

namespace Sys2Proof.Machine

/-! ## Waiting for bits -/

/-- A fetched byte's bits go above the held ones (spec/40_bitreader.md R100). -/
theorem toNat_fetched {buf : BitVec 64} {b : Byte} {n : Nat} (hbuf : buf.toNat < 2 ^ n) (hn : n + 8 < 64) :
    (buf ||| (b.setWidth 64 <<< n)).toNat = buf.toNat + 2 ^ n * b.toNat := by
  have hb := b.isLt
  have hmod : b.toNat * 2 ^ n < 2 ^ 64 :=
    calc b.toNat * 2 ^ n < 2 ^ 8 * 2 ^ n := Nat.mul_lt_mul_of_pos_right hb (Nat.two_pow_pos n)
      _ = 2 ^ (n + 8) := by rw [← Nat.pow_add, Nat.add_comm]
      _ ≤ 2 ^ 64 := Nat.pow_le_pow_right (by decide) (Nat.le_of_lt hn)
  have hshift : (b.setWidth 64 <<< n).toNat = 2 ^ n * b.toNat := by
    have hwide : b.toNat % 2 ^ 64 = b.toNat := Nat.mod_eq_of_lt (by omega)
    rw [BitVec.toNat_shiftLeft, BitVec.toNat_setWidth, hwide, Nat.shiftLeft_eq, Nat.mod_eq_of_lt hmod, Nat.mul_comm]
  rw [BitVec.toNat_or, hshift, Nat.or_comm, ← Nat.two_pow_add_eq_or_of_lt hbuf, Nat.add_comm]

section
variable {s : State} (hup : s.core.bitbuf.toNat < 2 ^ s.core.bitcnt.toNat) (hlt : s.core.bitcnt.toNat + 8 < 64)
include hlt

theorem bitcnt_fetchByte (b : Byte) (rest : List Byte) :
    (fetchByte b rest s).core.bitcnt.toNat = s.core.bitcnt.toNat + 8 := by
  rw [fetchByte_core]
  bv_omega

include hup

theorem upper_fetchByte (b : Byte) (rest : List Byte) :
    (fetchByte b rest s).core.bitbuf.toNat < 2 ^ (fetchByte b rest s).core.bitcnt.toNat := by
  have hb := b.isLt
  rw [bitcnt_fetchByte hlt, fetchByte_core, toNat_fetched hup hlt, Nat.pow_add]
  calc s.core.bitbuf.toNat + 2 ^ s.core.bitcnt.toNat * b.toNat
      < 2 ^ s.core.bitcnt.toNat * (b.toNat + 1) := by rw [Nat.mul_succ]; omega
    _ ≤ 2 ^ s.core.bitcnt.toNat * 2 ^ 8 := Nat.mul_le_mul_left _ hb

/-- A fetch changes nothing of the stream still to be read (spec/20_memory.md R61). -/
theorem pendingBits_fetchByte {b : Byte} {rest : List Byte} (hq : s.inq = b :: rest) :
    (fetchByte b rest s).pendingBits = s.pendingBits := by
  have hheld : (fetchByte b rest s).heldBits = s.heldBits ++ bitsOf 8 b.toNat := by
    rw [State.heldBits, State.heldBits, bitsOf_append _ _ _ _ hup, bitcnt_fetchByte hlt, fetchByte_core,
      toNat_fetched hup hlt]
  rw [State.pendingBits, State.pendingBits, hheld, fetchByte_inq, hq, List.flatMap_cons, List.append_assoc]

end

section
variable {s : State} (h : s.Inv) (hb : s.state = .busy)
include h hb

theorem State.Inv.unflushed_prepared (w : Bool) : ({ s.prepared with inWait := w } : State).Unflushed := by
  obtain ⟨hc, hr, hh, -, -⟩ := h.okBusy hb
  have hne : s.state ≠ .flush := by rw [hb]; decide
  have hm := moves_prepared s
  obtain ⟨k, hk⟩ := hm.reader
  have hcount : s.prepared.core.bitcnt.toNat < s.prepared.needed + 8 := by
    rw [needed_prepared]
    exact h.bitcnt_prepared_lt hb
  obtain ⟨h1, h2, h3, h4⟩ := hh.moves hm
  refine ⟨?_, ?_, ?_, ⟨hk.upper hr.upper, hcount, ?_⟩, ⟨h1, h2, h3, h4⟩⟩
  · exact (congrArg Memory.wf hm.window).trans h.window
  · exact hm.finalFlush.trans (hc.notFinal hne)
  · exact (congrArg BitVec.toNat hm.w).trans_lt (hc.room hne)
  · have hcnt : s.prepared.core.bitcnt.toNat = s.core.bitcnt.toNat - k := hk.bitcnt
    have htot : s.prepared.core.inBytesTotal = s.core.inBytesTotal := hk.total
    rw [hcnt, htot]
    exact Nat.le_trans (Nat.sub_le _ _) hr.position

theorem State.Inv.bitcnt_lt : s.core.bitcnt.toNat < s.needed + 8 := by
  obtain ⟨-, hr, -⟩ := h.okBusy hb
  exact hr.count

/-- Waiting for bits keeps the invariant: a hold, a fetch, or a raise (spec/40_bitreader.md R100, R103 to R105). -/
theorem inv_needMoreBits (hlt : s.prepared.core.bitcnt.toNat < s.needed) : (needMoreBits s.prepared).Inv := by
  have hun := h.unflushed_prepared hb true
  have hu := (h.underway hb).prepared
  have hm := moves_prepared s
  have hwf : s.prepared.window.wf = true := hun.window
  have h16 := needed_le s
  rcases needMoreBits_cases s.prepared with ⟨b, rest, -, he⟩ | ⟨-, -, he⟩ | ⟨-, -, he⟩ | ⟨-, -, he⟩ <;> rw [he]
  · have hcnt := bitcnt_fetchByte (s := s.prepared) (by omega) b rest
    have hneed : (fetchByte b rest s.prepared).needed = s.needed := needed_prepared s
    have hpos : s.prepared.core.bitcnt.toNat ≤ 8 * s.prepared.core.inBytesTotal := hun.reader.position
    have hr : (fetchByte b rest s.prepared).ReaderOk := by
      refine ⟨upper_fetchByte hun.reader.upper (show s.prepared.core.bitcnt.toNat + 8 < 64 by omega) b rest, ?_, ?_⟩
      · rw [hcnt, hneed]
        omega
      · rw [hcnt, fetchByte_core]
        dsimp only
        omega
    obtain ⟨h1, h2, h3, h4⟩ := hun.history
    have hun' : (fetchByte b rest s.prepared).Unflushed :=
      ⟨hwf, hun.finalFlush, hun.room, hr, ⟨h1, h2, h3, h4⟩⟩
    exact hun'.inv_busy (hm.state.trans hb) ⟨hu.goesOn, hu.dynamic, hu.ranges⟩
  · exact ⟨hwf, .inl rfl⟩
  · exact ⟨hwf, .inl rfl⟩
  · exact hun.inv_busy (hm.state.trans hb) ⟨hu.goesOn, hu.dynamic, hu.ranges⟩

/-- Waiting for bits moves forward by an alignment at most. -/
theorem forward_needMoreBits (hlt : s.prepared.core.bitcnt.toNat < s.needed)
    (he : (needMoreBits s.prepared).state ≠ .error) :
    (∃ k, k ≤ s.core.bitcnt.toNat ∧ (needMoreBits s.prepared).pendingBits = s.pendingBits.drop k ∧
      (needMoreBits s.prepared).bitPos = s.bitPos + k) ∧ (needMoreBits s.prepared).core.bitcnt.toNat < 24 := by
  have hun := h.unflushed_prepared hb false
  have h16 := needed_le s
  obtain ⟨k, hk⟩ := (moves_prepared s).reader
  have hpend : s.prepared.pendingBits = s.pendingBits.drop k := hk.pendingBits
  obtain ⟨-, hr, -⟩ := h.okBusy hb
  have hpos : s.prepared.bitPos = s.bitPos + k := hk.bitPos hr.position
  rcases needMoreBits_cases s.prepared with ⟨b, rest, hq, hf⟩ | ⟨-, -, hf⟩ | ⟨-, -, hf⟩ | ⟨-, -, hf⟩ <;> rw [hf] at he ⊢
  · have h64 : s.prepared.core.bitcnt.toNat + 8 < 64 := by omega
    have hcnt := bitcnt_fetchByte h64 b rest
    have hbp : (fetchByte b rest s.prepared).bitPos = s.prepared.bitPos := by
      rw [State.bitPos, State.bitPos, hcnt, fetchByte_core, Nat.mul_succ, Nat.add_sub_add_right]
    exact ⟨⟨k, hk.held, (pendingBits_fetchByte hun.reader.upper h64 hq).trans hpend, hbp.trans hpos⟩, by omega⟩
  · exact absurd rfl he
  · exact absurd rfl he
  · exact ⟨⟨k, hk.held, hpend, hpos⟩, show s.prepared.core.bitcnt.toNat < 24 by omega⟩

end

/-! ## Core steps -/

/-- A core step of a state that meets the invariant goes on, and keeps it. -/
theorem coreStep_inv {s : State} (h : s.Inv) : ∃ t, coreStep s = .next t ∧ t.Inv := by
  rcases coreStep_cases s with ⟨-, he⟩ | ⟨hb, hlt, he⟩ | ⟨hb, hn, -⟩
  · exact ⟨s, he, h⟩
  · rw [needed_prepared] at hlt
    exact ⟨_, he, inv_needMoreBits h hb hlt⟩
  · rw [needed_prepared] at hn
    obtain ⟨v, hv, t, he, ht⟩ := coreStep_completes h hb hn
    exact ⟨t, he, ht.inv (h.acting hb hv)⟩

end Sys2Proof.Machine

open Sys2Proof.Machine

/-- Settles O17: an action starts and ends ahead in the stream by bits that were held (`State.Acts.ahead`), fewer than
the bits required and 8; a wait is `forward_needMoreBits`. -/
theorem streamPositionOnlyAdvances : Obligations.StreamPositionOnlyAdvances := by
  intro s t h hb he ht
  obtain ⟨-, hr, -⟩ := h.okBusy hb
  have hheld := h.bitcnt_lt hb
  rcases coreStep_cases s with ⟨hne, -⟩ | ⟨-, hlt, hw⟩ | ⟨-, hn, -⟩
  · exact absurd hb hne
  · rw [needed_prepared] at hlt
    obtain rfl : needMoreBits s.prepared = t := Host.Outcome.next.inj (hw.symm.trans he)
    obtain ⟨⟨k, hk, hpend, hpos⟩, h24⟩ := forward_needMoreBits h hb hlt ht
    exact ⟨⟨k, by omega, hpend, hpos⟩, h24⟩
  · rw [needed_prepared] at hn
    obtain ⟨v, hv, t', he', hacts⟩ := coreStep_completes h hb hn
    obtain rfl : t' = t := Host.Outcome.next.inj (he'.symm.trans he)
    obtain ⟨j, hj⟩ := hv.moves.reader
    obtain ⟨k, hk⟩ := hacts.ahead ht
    have hjk := hj.trans hk
    have hfew := hv.few
    have hcnt := hk.bitcnt
    have := hjk.held
    exact ⟨⟨j + k, by omega, hjk.pendingBits, hjk.bitPos hr.position⟩, by omega⟩
end

section
/-! PROOF. Host steps and resets keep the invariant, and with them every step (spec/45_host.md,
spec/70_reset_and_hazards.md R330 to R332). -/

namespace Sys2Proof.Machine

/-! ## Host steps and resets -/

/-- The invariant says nothing of the port, the declared values, the command flags and the model's own fields. -/
theorem State.Inv.withPort {s : State} (h : s.Inv) (verified reject : Bool) (cr ln : Word) (q : List Byte)
    (tm : Terminal) (ag : List Turn) (rp : Option HostReply) (dr : Draw) :
    ({ s with
        verified := verified, reject := reject, declCrc := cr, declLen := ln, inq := q, interm := tm, agenda := ag
        reply := rp, draws := dr } : State).Inv := by
  obtain ⟨hwf, he | ⟨hc, hr, hh, hf, hg⟩⟩ := h
  · exact ⟨hwf, .inl he⟩
  · refine ⟨hwf, .inr ⟨?_, ⟨hr.upper, hr.count, hr.position⟩, ⟨hh.haveRange, hh.wHave, hh.written, hh.behind⟩, hf, hg⟩⟩
    exact ⟨hc.idle, hc.busy, hc.done, hc.finalFlush, hc.fullFlush, hc.full, hc.range, hc.waiting, hc.dynamic⟩

/-- The reset values meet the invariant with any canonical window (spec/70_reset_and_hazards.md R331, R332). -/
theorem inv_reset_with {m : Memory} (hm : m.wf = true) (cfg : Params) (ag : List Turn) (rp : Option HostReply)
    (dr : Draw) :
    ({ State.reset with config := cfg, window := m, agenda := ag, reply := rp, draws := dr } : State).Inv := by
  have hw : (0 : BitVec 16).toNat < Config.windowSize := by decide
  have hbuf : (0 : BitVec 64).toNat < 2 ^ (0 : BitVec 6).toNat := by decide
  have hfew : (0 : BitVec 6).toNat < 8 := by decide
  have hhave : ¬ 1 ≤ (0 : BitVec 16).toNat := by decide
  refine ⟨hm, .inr ⟨?_, ⟨hbuf, Nat.lt_of_lt_of_le hfew (Nat.le_add_left _ _), Nat.zero_le _⟩, ?_, nofun, trivial⟩⟩
  · exact ⟨fun _ => rfl, nofun, nofun, nofun, nofun, ⟨fun h => absurd h (Nat.ne_of_lt hw), fun h => nomatch h.1⟩,
      Nat.le_of_lt hw, nofun, nofun⟩
  · exact ⟨Nat.le_of_lt hw, Nat.le_refl _, fun _ hi => absurd hi (Nat.not_lt_zero _),
      fun _ _ h1 h2 => absurd (Nat.le_trans h1 h2) hhave⟩

theorem State.Inv.unflushed {s : State} (h : s.Inv) (hne : s.state ≠ .error) (hnf : s.state ≠ .flush) :
    s.Unflushed := by
  obtain ⟨hc, hr, hh, -, -⟩ := h.ok hne
  exact ⟨h.window, hc.notFinal hnf, hc.room hnf, hr, hh⟩

/-- `STATE` and the command flags do not bear on the reader and the window. -/
theorem State.Unflushed.withState {s : State} (h : s.Unflushed) (st : RunState) (reject : Bool) :
    ({ s with state := st, reject := reject } : State).Unflushed := by
  obtain ⟨hwf, hf, hroom, hr, hh⟩ := h
  exact ⟨hwf, hf, hroom, ⟨hr.upper, hr.count, hr.position⟩, ⟨hh.haveRange, hh.wHave, hh.written, hh.behind⟩⟩

/-- RESUME in `IDLE` starts the core at the first block header (spec/45_host.md R284). -/
theorem inv_resume_idle {s : State} (h : s.Inv) (hi : s.state = .idle) :
    ({ s.accepted with state := .busy } : State).Inv := by
  obtain ⟨hc, -, -, -, hg⟩ := h.ok (by rw [hi]; decide)
  have hun := h.unflushed (by rw [hi]; decide) (by rw [hi]; decide)
  have hgoes : s.core.phase ≠ .xDone := by rw [hc.idle hi]; decide
  exact (hun.withState .busy false).inv_busy rfl ⟨hgoes, hc.dynamic, hg⟩

/-- The window is emptied by setting `W` to 0: the history stays behind it (spec/44_window_crc.md R266, R268). -/
theorem State.Inv.unflushed_endFlush {s : State} (h : s.Inv) (hf : s.state = .flush) (st : RunState) (reject : Bool)
    {ff : Bool} (hno : ff = false) :
    ({ s with core.w := 0, finalFlush := ff, state := st, reject := reject } : State).Unflushed := by
  obtain ⟨hc, hr, hh, -, -⟩ := h.ok (by rw [hf]; decide)
  have hroom : (0 : BitVec 16).toNat < Config.windowSize := by decide
  refine ⟨h.window, hno, hroom, ⟨hr.upper, hr.count, hr.position⟩, ?_⟩
  refine ⟨hh.haveRange, Nat.zero_le _, fun _ hi => absurd hi (Nat.not_lt_zero _), fun hd d h1 h2 => ?_⟩
  cases hff : s.finalFlush with
  | true =>
    have hx : s.core.phase = .xDone := (hc.finalFlush hff).2
    have hd' : s.core.phase.decoding = true := hd
    rw [hx] at hd'
    cases hd'
  | false =>
    have hread := hh.behind hd d h1 h2
    rw [hc.full.2 ⟨hf, hff⟩, matchSource_windowSize] at hread
    exact hread

/-- RESUME in `FLUSH` goes back to decoding, or ends the stream after the final flush (spec/45_host.md R284). -/
theorem inv_resume_flush {s : State} (h : s.Inv) (hf : s.state = .flush) : s.accepted.endFlush.Inv := by
  obtain ⟨hc, -, -, -, hg⟩ := h.ok (by rw [hf]; decide)
  have hwait : s.inWait = false := by
    cases hw : s.inWait with
    | false => rfl
    | true => exact absurd (hf.symm.trans (hc.waiting hw)) (by decide)
  unfold State.endFlush
  cases hff : s.finalFlush with
  | true =>
    rw [if_pos (show s.accepted.finalFlush = true from hff)]
    exact (h.unflushed_endFlush hf .done false rfl).inv_done rfl (hc.finalFlush hff).2 hwait
  | false =>
    rw [if_neg (show ¬ s.accepted.finalFlush = true by rw [State.accepted_finalFlush, hff]; decide)]
    have hdec := hc.fullFlush hf hff
    have hgoes : s.core.phase ≠ .xDone := fun hx => by rw [hx] at hdec; cases hdec
    exact (h.unflushed_endFlush hf .busy false hff).inv_busy rfl ⟨hgoes, hc.dynamic, hg⟩

theorem inv_resume {s : State} (h : s.Inv) : ∃ t, exec .resume s = .next t ∧ t.Inv := by
  show ∃ t, execResume s = .next t ∧ t.Inv
  unfold execResume
  cases hst : s.state with
  | idle => exact ⟨_, rfl, inv_resume_idle h hst⟩
  | flush => exact ⟨_, rfl, inv_resume_flush h hst⟩
  | done | error | busy => exact ⟨_, rfl, h.withPort ..⟩

/-- READ_BYTE and CHECK_TRAILER start a phase outside decoding, for which no history is asked (spec/45_host.md R285,
R287). -/
theorem inv_startCommand {s : State} (h : s.Inv) (hd : s.state = .done) {p : Phase} (x : BitVec 4)
    (hp : p = .cRdbyte ∨ (p = .cTrailer ∧ x.toNat < 8)) :
    ({ s with reject := false, state := .busy, core.phase := p, core.tidx := x } : State).Inv := by
  obtain ⟨hc, hr, hh, -, -⟩ := h.ok (by rw [hd]; decide)
  obtain ⟨hwf, hff, hroom, -, -⟩ := h.unflushed (by rw [hd]; decide) (by rw [hd]; decide)
  have hfew : s.core.bitcnt.toNat < 8 := by
    have hcount := hr.count
    simpa only [State.needed, State.ctx, hc.done hd, reduceCtorEq, if_false] using hcount
  have hr' : ({ s with reject := false, state := .busy, core.phase := p, core.tidx := x } : State).ReaderOk :=
    ⟨hr.upper, Nat.lt_of_lt_of_le hfew (Nat.le_add_left _ _), hr.position⟩
  have hh' : ({ s with reject := false, state := .busy, core.phase := p, core.tidx := x } : State).HistoryOk := by
    refine ⟨hh.haveRange, hh.wHave, hh.written, fun hdec => ?_⟩
    rcases hp with rfl | ⟨rfl, -⟩ <;> cases hdec
  have hun : ({ s with reject := false, state := .busy, core.phase := p, core.tidx := x } : State).Unflushed :=
    ⟨hwf, hff, hroom, hr', hh'⟩
  rcases hp with rfl | ⟨rfl, hx⟩
  · exact hun.inv_busy rfl ⟨nofun, nofun, trivial⟩
  · exact hun.inv_busy rfl ⟨nofun, nofun, hx⟩

theorem inv_compareTrailer {s : State} (h : s.Inv) : s.compareTrailer.Inv := by
  rcases compareTrailer_cases s with ⟨-, he⟩ | ⟨-, -, he⟩ | ⟨-, -, he⟩ <;> rw [he]
  · exact ⟨h.window, .inl rfl⟩
  · exact ⟨h.window, .inl rfl⟩
  · exact h.withPort ..

theorem State.Inv.accepted {s : State} (h : s.Inv) : s.accepted.Inv := h.withPort ..

theorem State.Inv.rejected {s : State} (h : s.Inv) : s.rejected.Inv := h.withPort ..

/-- A command of a state that meets the invariant completes, and keeps it (spec/45_host.md R281 to R288). -/
theorem execCommand_inv {s : State} (h : s.Inv) (w : Word) : ∃ t, exec (decodeCommand w) s = .next t ∧ t.Inv := by
  unfold decodeCommand
  split_ifs
  · exact ⟨_, rfl, inv_reset_with h.window ..⟩
  · exact inv_resume h
  · show ∃ t, execReadByte .command s = .next t ∧ t.Inv
    simp only [execReadByte]
    split_ifs with hd
    · exact ⟨_, rfl, inv_startCommand h hd s.core.tidx (.inl rfl)⟩
    · exact ⟨_, rfl, h.rejected⟩
  · show ∃ t, execCheck s = .next t ∧ t.Inv
    simp only [execCheck]
    split_ifs
    · exact ⟨_, rfl, inv_compareTrailer h.accepted⟩
    · exact ⟨_, rfl, h.rejected⟩
  · show ∃ t, execCheckTrailer .command s = .next t ∧ t.Inv
    simp only [execCheckTrailer]
    split_ifs with hd
    · exact ⟨_, rfl, inv_startCommand h hd 0 (.inr ⟨rfl, by decide⟩)⟩
    · exact ⟨_, rfl, h.rejected⟩
  · exact ⟨_, rfl, h.rejected⟩

/-- A host step of a state that meets the invariant keeps it, or is refused as outside the contract (spec/10_state.md
R49). -/
theorem hostStep_inv {s : State} (h : s.Inv) (a : HostAction) :
    hostStep a s = .refused .outsideHostContract ∨ ∃ t, hostStep a s = .next t ∧ t.Inv := by
  rcases hostStep_cases a s with ⟨v, -, he⟩ | he | ⟨cr, ln, q, tm, rp, dr, he⟩
  · rw [he]
    exact .inr (execCommand_inv h v)
  · exact .inl he
  · exact .inr ⟨_, he, h.withPort ..⟩

/-- A step of a state that meets the invariant keeps it, or is a host access outside the contract. -/
theorem step_inv {s : State} (h : s.Inv) :
    step s = .refused .outsideHostContract ∨ ∃ t, step s = .next t ∧ t.Inv := by
  have hrest : ∀ rest, ({ s with agenda := rest } : State).Inv := fun rest => h.withPort ..
  rcases step_cases s with ⟨-, he⟩ | ⟨rest, -, he⟩ | ⟨a, rest, -, he⟩ | ⟨rest, -, he⟩ <;> rw [he]
  · exact .inr (coreStep_inv h)
  · exact .inr (coreStep_inv (hrest rest))
  · exact hostStep_inv (hrest rest) a
  · exact .inr ⟨_, rfl, inv_reset_with Memory.wf_nil ..⟩

end Sys2Proof.Machine

open Sys2Proof.Machine

/-- Settles O53: each effect of a core action keeps the invariant (`State.Acts.inv`), as do a wait for bits, the
commands and the resets; `step_inv` joins them. -/
theorem stepKeepsInvariant : Obligations.StepKeepsInvariant := by
  intro s t h he
  rcases step_inv h with hr | ⟨t', he', ht⟩
  · exact nomatch hr.symm.trans he
  · obtain rfl : t' = t := Host.Outcome.next.inj (he'.symm.trans he)
    exact ht

/-- Settles O54: by `step_inv` a step goes on or is refused as outside the contract, and never faults. -/
theorem invariantStatesNeverFault : Obligations.InvariantStatesNeverFault := by
  intro s h
  rcases step_inv h with hr | ⟨t, he, -⟩
  · exact ⟨fun f hf => (nomatch hr.symm.trans hf), fun r hr' => (Host.Outcome.refused.inj (hr.symm.trans hr')).symm⟩
  · exact ⟨fun f hf => (nomatch he.symm.trans hf), fun r hr => (nomatch he.symm.trans hr)⟩
end

section
/-! PROOF. A step appends at most one flush to the output log (spec/10_state.md R48, R51). -/

namespace Sys2Proof.Machine

/-! ## A core action is no OPEN -/

theorem ne_openStream_of_mem_lengthInstrs :
    ∀ p ∈ lengthInstrs, p.1 ≠ .openStream ∧ ∀ v, p.2 v ≠ .openStream := by
  simp [lengthInstrs]

theorem ne_openStream_of_mem_distanceInstrs :
    ∀ p ∈ distanceInstrs, p.1 ≠ .openStream ∧ (∀ v, p.2.1 v ≠ .openStream) ∧ p.2.2 ≠ .openStream := by
  simp [distanceInstrs]

theorem ne_openStream_of_symbolInstr {a : Alphabet} {sym : Nat} {i : Instr} (h : symbolInstr a sym = some i) :
    i ≠ .openStream := by
  unfold symbolInstr at h
  split at h
  · split_ifs at h <;> cases h <;> nofun
  · cases h; nofun
  · cases h; nofun
  · obtain ⟨p, hp, rfl⟩ := Option.map_eq_some_iff.1 h
    exact (ne_openStream_of_mem_lengthInstrs p (List.mem_of_getElem? hp)).1
  · obtain ⟨p, hp, rfl⟩ := Option.map_eq_some_iff.1 h
    exact (ne_openStream_of_mem_distanceInstrs p (List.mem_of_getElem? hp)).1
  · split_ifs at h <;> cases h <;> nofun
  · cases h

theorem ne_openStream_of_decodeField {n k : Nat} {mk : Nat → Instr} {bits : List Bool} {i : Instr}
    (h : decodeField n mk bits = .ok (i, k)) (hmk : ∀ v, mk v ≠ .openStream) : i ≠ .openStream := by
  obtain ⟨-, rfl, -⟩ := decodeField_ok h
  exact hmk _

/-- Only a command word decodes to OPEN (spec/30_encoding.md R91). -/
theorem ne_openStream_of_decode {c : Ctx} {bits : List Bool} {i : Instr} {k : Nat} (hc : c ≠ .command)
    (h : decode c bits = .ok (i, k)) : i ≠ .openStream := by
  cases c with
  | command => exact absurd rfl hc
  | header =>
    refine ne_openStream_of_decodeField h fun v => ?_
    unfold decodeHeader
    split_ifs <;> nofun
  | symbol a t x n =>
    obtain ⟨-, sym, -, hi⟩ := decodeSymbol_ok h
    exact ne_openStream_of_symbolInstr hi
  | repeatExtra r =>
    simp only [decode] at h
    split_ifs at h
    all_goals exact ne_openStream_of_decodeField h fun _ => nofun
  | lengthExtra m =>
    simp only [decode] at h
    split at h
    · next hp => exact ne_openStream_of_decodeField h (ne_openStream_of_mem_lengthInstrs _ (List.mem_of_getElem? hp)).2
    · cases h
  | distExtra d =>
    simp only [decode] at h
    split at h
    · next hp =>
      exact ne_openStream_of_decodeField h (ne_openStream_of_mem_distanceInstrs _ (List.mem_of_getElem? hp)).2.1
    · cases h
  | copy d =>
    simp only [decode] at h
    split at h
    · next hp =>
      cases h
      exact (ne_openStream_of_mem_distanceInstrs _ (List.mem_of_getElem? hp)).2.2
    · cases h
  | clBuild => cases h; nofun
  | storedLen | storedNlen | storedByte | hlit | hdist | hclen | clLen | readByte | trailerByte =>
    simp only [decode] at h
    exact ne_openStream_of_decodeField h fun _ => nofun

/-! ## What an instruction does to the output -/

theorem format_decodeCommand (w : Word) : (decodeCommand w).format = .cmd := by
  unfold decodeCommand
  split_ifs <;> rfl

theorem decodeCommand_ne_openStream {w : Word} (h : w ≠ 1) : decodeCommand w ≠ .openStream := by
  rw [decodeCommand, if_neg h]
  split_ifs <;> nofun

/-- `t` has the parameters and the output of `s`. -/
def State.SameOutput (s t : State) : Prop := t.config = s.config ∧ t.outlog = s.outlog

/-- `t` has the parameters of `s` and one flush more, the one now pending (spec/44_window_crc.md R262). -/
def State.OneFlushMore (s t : State) : Prop :=
  t.config = s.config ∧ ∃ r, t.outlog = s.outlog ++ [r] ∧ t.state = .flush ∧ r.bytes.length = t.flushLen.toNat ∧
    r.final = t.finalFlush

/-- Where the result goes on, it keeps the output or makes one flush. -/
def State.Grows (s : State) (r : Result) : Prop := ∀ t, r = .next t → s.SameOutput t ∨ s.OneFlushMore t

theorem grows_next {s t : State} (h : s.SameOutput t) : s.Grows (.next t) := by
  rintro _ ⟨⟩
  exact .inl h

theorem oneFlushMore_flush (final : Bool) {s u : State} (h : s.SameOutput u) : s.OneFlushMore (flush final u) :=
  ⟨h.1, _, by rw [flush_outlog, h.2], rfl, length_flushBytes u, rfl⟩

theorem grows_windowWrite (b : Byte) {s u : State} (h : s.SameOutput u) : s.Grows (windowWrite b u) := by
  rcases windowWrite_cases b u with ⟨-, he⟩ | ⟨-, he⟩ <;> rw [he]
  · rcases afterWrite_cases b u with ⟨-, he'⟩ | ⟨-, he'⟩ <;> rw [he'] <;> rintro _ ⟨⟩
    · exact .inl h
    · exact .inr (oneFlushMore_flush false (u := u.putByte b) h)
  · rintro _ ⟨⟩

theorem sameOutput_compareTrailer {s u : State} (h : s.SameOutput u) : s.SameOutput u.compareTrailer := by
  rcases compareTrailer_cases u with ⟨-, he⟩ | ⟨-, -, he⟩ | ⟨-, -, he⟩ <;> rw [he] <;> exact h

/-- A command other than OPEN keeps the output (spec/45_host.md R284 to R288). -/
theorem sameOutput_of_command {i : Instr} {s t : State} (hi : i.format = .cmd) (hne : i ≠ .openStream)
    (h : exec i s = .next t) : s.SameOutput t := by
  cases i with
  | openStream => exact absurd rfl hne
  | resume =>
    simp only [exec, execResume] at h
    split at h <;> cases h
    case h_2 =>
      unfold State.endFlush
      split_ifs <;> exact ⟨rfl, rfl⟩
    all_goals exact ⟨rfl, rfl⟩
  | readByte p =>
    cases p with
    | command =>
      simp only [exec, execReadByte] at h
      split_ifs at h <;> cases h <;> exact ⟨rfl, rfl⟩
    | byte b => cases h; exact ⟨rfl, rfl⟩
  | check =>
    simp only [exec, execCheck] at h
    split_ifs at h <;> cases h
    · exact sameOutput_compareTrailer ⟨rfl, rfl⟩
    · exact ⟨rfl, rfl⟩
  | checkTrailer p =>
    cases p with
    | command =>
      simp only [exec, execCheckTrailer] at h
      split_ifs at h <;> cases h <;> exact ⟨rfl, rfl⟩
    | byte b =>
      obtain ⟨cr, ln, hput⟩ := putTrailerByte_eq s b
      simp only [exec, execCheckTrailer, hput] at h
      split_ifs at h <;> cases h
      · exact sameOutput_compareTrailer ⟨rfl, rfl⟩
      · exact ⟨rfl, rfl⟩
  | cmdReserved w => cases h; exact ⟨rfl, rfl⟩
  | _ => cases hi

theorem sameOutput_endOfBlock (s : State) : s.SameOutput s.endOfBlock := ⟨rfl, rfl⟩

theorem grows_stored (x : StoredField) (s : State) : s.Grows (execStored x s) := by
  cases x with
  | len v => exact grows_next ⟨rfl, rfl⟩
  | nlen v =>
    refine grows_next ?_
    unfold checkNlen
    split_ifs <;> exact ⟨rfl, rfl⟩
  | byte b =>
    refine grows_windowWrite b ?_
    unfold State.countStored
    split_ifs <;> exact ⟨rfl, rfl⟩

theorem sameOutput_buildCodeLengthTable (s : State) : s.SameOutput (buildCodeLengthTable s) := by
  unfold buildCodeLengthTable
  split <;> exact ⟨rfl, rfl⟩

theorem sameOutput_buildSymbolTables (s : State) : s.SameOutput (buildSymbolTables s) := by
  unfold buildSymbolTables
  split
  · exact ⟨rfl, rfl⟩
  · split <;> exact ⟨rfl, rfl⟩

theorem grows_dynhdr (x : DynField) (s : State) : s.Grows (execDynhdr x s) := by
  cases x with
  | hlit v => exact grows_next ⟨rfl, rfl⟩
  | hdist v => exact grows_next ⟨rfl, rfl⟩
  | hclen v =>
    refine grows_next ?_
    unfold takeHclen
    split_ifs <;> exact ⟨rfl, rfl⟩
  | clLen v =>
    show s.Grows (takeClLen v s)
    unfold takeClLen
    split
    · rintro _ ⟨⟩
    · exact grows_next ⟨rfl, rfl⟩
  | build => exact grows_next (sameOutput_buildCodeLengthTable s)

theorem grows_storeLengths (r : Nat) (v : BitVec 4) (s : State) : s.Grows (storeLengths r v s) := by
  rcases storeLengths_cases r v s with ⟨-, t, he, hs⟩ | ⟨-, he⟩ <;> rw [he]
  · exact grows_next ⟨(congrArg State.config hs.frame :), (congrArg State.outlog hs.frame :)⟩
  · rintro _ ⟨⟩

theorem grows_repeatLengths (r : Nat) (v : BitVec 4) (s : State) : s.Grows (repeatLengths r v s) := by
  rcases repeatLengths_cases r v s with ⟨-, he⟩ | ⟨-, he⟩ <;> rw [he]
  · exact grows_next ⟨rfl, rfl⟩
  · exact grows_storeLengths r v s

theorem grows_lengthElement {x : Nat} (sym : BitVec 9) (base : Nat) (p : SymPart x) (s : State) :
    s.Grows (.next (lengthElement sym base p s)) := by
  cases p <;> exact grows_next ⟨rfl, rfl⟩

theorem grows_distanceElement {x : Nat} (sym : BitVec 5) (base : Nat) (p : DistPart x) (s : State) :
    s.Grows (distanceElement sym base p s) := by
  cases p with
  | code => exact grows_next ⟨rfl, rfl⟩
  | extra e =>
    refine grows_next ?_
    unfold takeDistance
    split_ifs <;> exact ⟨rfl, rfl⟩
  | copy =>
    refine grows_windowWrite _ ?_
    unfold State.countMatch
    split_ifs <;> exact ⟨rfl, rfl⟩

/-- Every instruction but OPEN keeps the output or makes one flush. -/
theorem grows_exec {i : Instr} (hne : i ≠ .openStream) (s : State) : s.Grows (exec i s) := by
  cases i with
  | openStream => exact absurd rfl hne
  | resume | readByte p | check | checkTrailer p | cmdReserved w =>
    exact fun t h => .inl (sameOutput_of_command rfl hne h)
  | blkStored f | blkFixed f | blkDynamic f | blkReserved f => exact grows_next ⟨rfl, rfl⟩
  | stored x => exact grows_stored x s
  | dynhdr x => exact grows_dynhdr x s
  | clLen v => exact grows_storeLengths 1 v s
  | clRepPrev p =>
    cases p with
    | code =>
      show s.Grows (execClRepPrev .code s)
      simp only [execClRepPrev]
      split_ifs <;> exact grows_next ⟨rfl, rfl⟩
    | extra e => exact grows_repeatLengths _ _ s
  | clRepZeroS p | clRepZeroL p =>
    cases p with
    | code => exact grows_next ⟨rfl, rfl⟩
    | extra e => exact grows_repeatLengths _ _ s
  | lit c => exact grows_windowWrite c ⟨rfl, rfl⟩
  | eob => exact grows_next (sameOutput_endOfBlock s)
  | llInvalid286 | llInvalid287 | distInvalid30 | distInvalid31 => exact grows_next ⟨rfl, rfl⟩
  | len257 p | len258 p | len259 p | len260 p | len261 p | len262 p | len263 p | len264 p | len265 p | len266 p
  | len267 p | len268 p | len269 p | len270 p | len271 p | len272 p | len273 p | len274 p | len275 p | len276 p
  | len277 p | len278 p | len279 p | len280 p | len281 p | len282 p | len283 p | len284 p | len285 p =>
    exact grows_lengthElement _ _ p s
  | dist0 p | dist1 p | dist2 p | dist3 p | dist4 p | dist5 p | dist6 p | dist7 p | dist8 p | dist9 p | dist10 p
  | dist11 p | dist12 p | dist13 p | dist14 p | dist15 p | dist16 p | dist17 p | dist18 p | dist19 p | dist20 p
  | dist21 p | dist22 p | dist23 p | dist24 p | dist25 p | dist26 p | dist27 p | dist28 p | dist29 p =>
    exact grows_distanceElement _ _ p s

/-! ## What a step does to the output -/

theorem grows_endStream (s : State) : s.Grows (.next (endStream s)) := by
  unfold endStream
  split_ifs
  · rintro _ ⟨⟩
    exact .inr (oneFlushMore_flush true (u := s.alignToByte.goto .xDone) ⟨rfl, rfl⟩)
  · exact grows_next ⟨rfl, rfl⟩

theorem grows_engineAction (s : State) : s.Grows (.next (engineAction s)) := by
  unfold engineAction
  split
  · exact grows_next ⟨rfl, rfl⟩
  · exact grows_next (sameOutput_buildSymbolTables s)
  · exact grows_endStream s
  all_goals exact grows_next ⟨rfl, rfl⟩

theorem sameOutput_prepared (s : State) : s.SameOutput { s.prepared with inWait := false } := by
  unfold State.prepared
  split_ifs <;> exact ⟨rfl, rfl⟩

theorem sameOutput_consumed (s : State) : s.SameOutput s.consumed := by
  unfold State.consumed
  split <;> exact ⟨rfl, rfl⟩

theorem State.Grows.of_sameOutput {s u : State} {r : Result} (h : s.SameOutput u) (hg : u.Grows r) : s.Grows r := by
  intro t ht
  unfold State.SameOutput State.OneFlushMore
  rw [← h.1, ← h.2]
  exact hg t ht

theorem grows_coreAction (s : State) : s.Grows (coreAction s) := by
  rcases coreAction_cases s with
    ⟨-, he⟩ | ⟨c, hc, ⟨i, k, hd, he⟩ | ⟨n, -, he⟩ | ⟨t, -, he⟩ | ⟨t, -, he⟩ | ⟨-, he⟩⟩ <;> rw [he]
  · exact grows_engineAction s
  · have hne : c ≠ .command := fun h => ctx_ne_command s (h ▸ hc)
    exact .of_sameOutput (sameOutput_consumed s) (grows_exec (ne_openStream_of_decode hne hd) _)
  · exact grows_next (sameOutput_consumed s)
  · exact grows_next ⟨rfl, rfl⟩
  · exact grows_next ⟨rfl, rfl⟩
  · rintro _ ⟨⟩

/-- A core step keeps the output, or makes one flush and was BUSY. -/
theorem coreStep_output {s t : State} (h : coreStep s = .next t) :
    s.SameOutput t ∨ s.state = .busy ∧ s.OneFlushMore t := by
  have hp := sameOutput_prepared s
  rcases coreStep_cases s with ⟨-, he⟩ | ⟨-, -, he⟩ | ⟨hb, -, he⟩ <;> rw [he] at h
  · cases h
    exact .inl ⟨rfl, rfl⟩
  · cases h
    refine .inl ?_
    rcases needMoreBits_cases s.prepared with ⟨b, rest, -, he'⟩ | ⟨-, -, he'⟩ | ⟨-, -, he'⟩ | ⟨-, -, he'⟩ <;>
      rw [he'] <;> exact hp
  · exact (State.Grows.of_sameOutput hp (grows_coreAction _) t h).imp id fun hf => ⟨hb, hf⟩

/-- A host step keeps the parameters, and the output unless it writes OPEN. -/
theorem hostStep_output {a : HostAction} {s t : State} (h : hostStep a s = .next t) :
    t.config = s.config ∧ (a = .write 0 .word 1 ∨ t.outlog = s.outlog) := by
  rcases hostStep_cases a s with ⟨v, rfl, he⟩ | he | ⟨cr, ln, q, tm, rp, dr, he⟩ <;> rw [he] at h
  · by_cases h1 : v = 1
    · subst h1
      cases h
      exact ⟨rfl, .inl rfl⟩
    · exact (sameOutput_of_command (format_decodeCommand v) (decodeCommand_ne_openStream h1) h).imp id .inr
  · cases h
  · cases h
    exact ⟨rfl, .inr rfl⟩

end Sys2Proof.Machine

open Sys2Proof.Machine

/-- Settles O57: a core step keeps the output or makes one flush (`coreStep_output`), a host step but OPEN keeps it
(`hostStep_output`), and both resets keep the parameters. -/
theorem outputOnlyGrows : Obligations.OutputOnlyGrows := by
  intro s t h
  have core : ∀ rest, coreStep { s with agenda := rest } = .next t → t.config = s.config ∧
      (s.resetTurn = false → t.outlog = s.outlog ∨ ∃ r, t.outlog = s.outlog ++ [r] ∧ s.state = .busy ∧
        t.state = .flush ∧ r.bytes.length = t.flushLen.toNat ∧ r.final = t.finalFlush) := by
    intro rest hc
    rcases coreStep_output hc with ⟨hcfg, hout⟩ | ⟨hb, hcfg, r, hout, hst, hlen, hfin⟩
    · exact ⟨hcfg, fun _ => .inl hout⟩
    · exact ⟨hcfg, fun _ => .inr ⟨r, hout, hb, hst, hlen, hfin⟩⟩
  rcases step_cases s with ⟨-, he⟩ | ⟨rest, -, he⟩ | ⟨a, rest, ha, he⟩ | ⟨rest, ha, he⟩ <;> rw [he] at h
  · exact core s.agenda h
  · exact core rest h
  · obtain ⟨hcfg, rfl | hout⟩ := hostStep_output h
    · refine ⟨hcfg, fun hreset => ?_⟩
      rw [State.resetTurn, ha] at hreset
      cases hreset
    · exact ⟨hcfg, fun _ => .inl hout⟩
  · cases h
    refine ⟨rfl, fun hreset => ?_⟩
    rw [State.resetTurn, ha] at hreset
    cases hreset
end

section
/-! PROOF. The registers the host reads, and the accesses it may make (spec/10_state.md R41 to R49). -/

namespace Sys2Proof.Machine

/-- The `n`-bit field of a word at bit `a` is its quotient by `2 ^ a`. -/
theorem extractLsb'_ofNat {a n x : Nat} (h : a + n ≤ 32) :
    (BitVec.ofNat 32 x).extractLsb' a n = BitVec.ofNat n (x / 2 ^ a) := by
  have hsplit : 2 ^ 32 = 2 ^ a * 2 ^ (32 - a) := by rw [← Nat.pow_add, Nat.add_sub_cancel' (by omega)]
  refine BitVec.eq_of_toNat_eq ?_
  rw [BitVec.extractLsb'_toNat, BitVec.toNat_ofNat, BitVec.toNat_ofNat, Nat.shiftRight_eq_div_pow, hsplit,
    Nat.mod_mul_right_div_self, Nat.mod_mod_of_dvd _ (Nat.pow_dvd_pow 2 (by omega))]

/-- A word below `2 ^ a` has no bit at `a` or above. -/
theorem extractLsb'_ofNat_eq_zero {a n x : Nat} (h : a + n ≤ 32) (hx : x < 2 ^ a) :
    (BitVec.ofNat 32 x).extractLsb' a n = 0 := by
  rw [extractLsb'_ofNat h, Nat.div_eq_of_lt hx]
  rfl

/-- Bit `a` of a word is the parity of its quotient by `2 ^ a`. -/
theorem getLsbD_ofNat_eq {a x : Nat} {b : Bool} (ha : a < 32) (h : x / 2 ^ a % 2 = b.toNat) :
    (BitVec.ofNat 32 x).getLsbD a = b := by
  rw [BitVec.getLsbD_ofNat, Nat.testBit_eq_decide_div_mod_eq, h]
  cases b <;> simp [ha]

theorem ofNat_eq_of_mod {n x y : Nat} (h : x % 2 ^ n = y % 2 ^ n) : BitVec.ofNat n x = BitVec.ofNat n y :=
  BitVec.eq_of_toNat_eq (by simpa using h)

theorem RunState.code_lt (r : RunState) : r.code < 8 := by cases r <;> decide

theorem ErrCode.code_lt (e : ErrCode) : e.code < 256 := by cases e <;> decide

theorem ErrDetail.code_lt (d : ErrDetail) : d.code < 256 := by cases d <;> decide

theorem ErrTable.code_lt (t : ErrTable) : t.code < 4 := by cases t <;> decide

/-- The fields of `STATUS` (spec/10_state.md R42). -/
theorem statusWord_fields (s : State) :
    s.statusWord.extractLsb' 0 3 = BitVec.ofNat 3 s.state.code ∧ s.statusWord.getLsbD 3 = s.finalFlush ∧
    s.statusWord.getLsbD 4 = s.core.bfinal ∧ s.statusWord.extractLsb' 5 2 = s.core.btype ∧
    s.statusWord.getLsbD 7 = s.verified ∧ s.statusWord.getLsbD 8 = s.reject ∧ s.statusWord.getLsbD 9 = s.inWait ∧
    s.statusWord.extractLsb' 10 22 = 0 := by
  have hst := s.state.code_lt
  have hbt := s.core.btype.isLt
  have hff := s.finalFlush.toNat_lt
  have hbf := s.core.bfinal.toNat_lt
  have hve := s.verified.toNat_lt
  have hre := s.reject.toNat_lt
  have hiw := s.inWait.toNat_lt
  unfold State.statusWord
  refine ⟨?_, getLsbD_ofNat_eq (by decide) ?_, getLsbD_ofNat_eq (by decide) ?_, ?_, getLsbD_ofNat_eq (by decide) ?_,
    getLsbD_ofNat_eq (by decide) ?_, getLsbD_ofNat_eq (by decide) ?_, ?_⟩
  · rw [extractLsb'_ofNat (by decide)]
    exact ofNat_eq_of_mod (by omega)
  · omega
  · omega
  · rw [extractLsb'_ofNat (by decide)]
    exact BitVec.eq_of_toNat_eq (by rw [BitVec.toNat_ofNat]; omega)
  · omega
  · omega
  · omega
  · exact extractLsb'_ofNat_eq_zero (by decide) (by omega)

/-- The fields of `ERROR` (spec/10_state.md R43). -/
theorem errorWord_fields (s : State) :
    s.errorWord.extractLsb' 0 8 = BitVec.ofNat 8 s.errCode.code ∧
    s.errorWord.extractLsb' 8 8 = BitVec.ofNat 8 s.errDetail.code ∧
    s.errorWord.extractLsb' 16 2 = BitVec.ofNat 2 s.errTable.code ∧ s.errorWord.extractLsb' 18 14 = 0 := by
  have hc := s.errCode.code_lt
  have hd := s.errDetail.code_lt
  have ht := s.errTable.code_lt
  unfold State.errorWord
  refine ⟨?_, ?_, ?_, extractLsb'_ofNat_eq_zero (by decide) (by omega)⟩ <;> rw [extractLsb'_ofNat (by decide)] <;>
    exact ofNat_eq_of_mod (by omega)

/-- The fields of `CONFIG` (spec/10_state.md R48). -/
theorem configWord_fields (s : State) :
    s.configWord.getLsbD 0 = s.config.singleDistCodeOk ∧
    s.configWord.getLsbD 1 = decide (s.config.repeatNoPrev = .zero) ∧
    s.configWord.getLsbD 2 = decide (s.config.distTooFar = .window) ∧
    s.configWord.getLsbD 3 = s.config.oomPossible ∧ s.configWord.extractLsb' 4 28 = 0 := by
  have hsd := s.config.singleDistCodeOk.toNat_lt
  have hoom := s.config.oomPossible.toNat_lt
  have hrn : (if s.config.repeatNoPrev = .zero then 1 else 0) = (decide (s.config.repeatNoPrev = .zero)).toNat := by
    split_ifs with h <;> simp [h]
  have hdf : (if s.config.distTooFar = .window then 1 else 0) = (decide (s.config.distTooFar = .window)).toNat := by
    split_ifs with h <;> simp [h]
  have hrn' := (decide (s.config.repeatNoPrev = .zero)).toNat_lt
  have hdf' := (decide (s.config.distTooFar = .window)).toNat_lt
  unfold State.configWord
  rw [hrn, hdf]
  refine ⟨getLsbD_ofNat_eq (by decide) ?_, getLsbD_ofNat_eq (by decide) ?_, getLsbD_ofNat_eq (by decide) ?_,
    getLsbD_ofNat_eq (by decide) ?_, extractLsb'_ofNat_eq_zero (by decide) (by omega)⟩ <;> omega

/-! ## The accesses of the contract -/

theorem isRegisterAccess_iff (off : Offset) (width : Width) :
    isRegisterAccess off width = true ↔ width = .word ∧ off.toNat < 0x8000 ∧ off.toNat % 4 = 0 := by
  simp [isRegisterAccess, and_assoc]

theorem isWindowAccess_iff (off : Offset) (width : Width) :
    isWindowAccess off width = true ↔ width = .byte ∧ 0x8000 ≤ off.toNat := by
  simp [isWindowAccess]

theorem hostRead_refused_iff (off : Offset) (width : Width) (s : State) :
    hostRead off width s = .refused .outsideHostContract ↔
      ¬ (isRegisterAccess off width = true ∨ isWindowAccess off width = true) := by
  unfold hostRead
  split_ifs <;> simp [*]

theorem hostWrite_refused_iff (off : Offset) (width : Width) (v : Word) (s : State) :
    hostWrite off width v s = .refused .outsideHostContract ↔
      ¬ (isRegisterAccess off width = true ∨ isWindowAccess off width = true) := by
  unfold hostWrite
  split_ifs <;> simp [*]

/-- No command is refused (spec/45_host.md R281 to R288). -/
theorem execCommand_next (w : Word) (s : State) : ∃ t, exec (decodeCommand w) s = .next t := by
  unfold decodeCommand
  split_ifs
  · exact ⟨_, rfl⟩
  · show ∃ t, execResume s = .next t
    unfold execResume
    split <;> exact ⟨_, rfl⟩
  · show ∃ t, execReadByte .command s = .next t
    simp only [execReadByte]
    split_ifs <;> exact ⟨_, rfl⟩
  · show ∃ t, execCheck s = .next t
    simp only [execCheck]
    split_ifs <;> exact ⟨_, rfl⟩
  · show ∃ t, execCheckTrailer .command s = .next t
    simp only [execCheckTrailer]
    split_ifs <;> exact ⟨_, rfl⟩
  · exact ⟨_, rfl⟩

end Sys2Proof.Machine

open Sys2Proof.Machine

/-- Settles O2: the fields are quotients of the sums `STATUS` and `ERROR` are made of. -/
theorem statusAndErrorFields : Obligations.StatusAndErrorFields :=
  ⟨⟨rfl, statusWord_fields⟩, rfl, rfl, rfl, errorWord_fields⟩

/-- Settles O3: an aligned word below 0x8000 is an access of the register contract, and the map gives each register. -/
theorem registerReads : Obligations.RegisterReads := by
  refine ⟨fun s off hlt hal => if_pos ((isRegisterAccess_iff off .word).2 ⟨rfl, hlt, hal⟩), fun s => ?_⟩
  obtain ⟨h0, h1, h2, h3, h4⟩ := configWord_fields s
  refine ⟨rfl, rfl, rfl, rfl, rfl, rfl, rfl, ?_, rfl, ?_, h0, h1, h2, h3, h4, fun o ho => ?_⟩
  · exact BitVec.toNat_setWidth_of_le (b := s.flushLen) (w' := 32) (by decide)
  · exact BitVec.toNat_setWidth_of_le (b := s.core.data) (w' := 32) (by decide)
  · simp (disch := omega) only [State.register, if_neg]

/-- Settles O5: both host accesses are refused where neither shape of the contract fits, and a write of `CMD`, which
fits one, runs a command, which is never refused. -/
theorem accessesOutsideContractRefused : Obligations.AccessesOutsideContractRefused := by
  intro s off width v
  rw [← isRegisterAccess_iff, ← isWindowAccess_iff]
  refine ⟨hostRead_refused_iff off width s, ?_⟩
  by_cases hc : off = 0 ∧ width = .word
  · obtain ⟨rfl, rfl⟩ := hc
    obtain ⟨t, ht⟩ := execCommand_next v s
    have hstep : hostStep (.write 0 .word v) s = .next t := ht
    rw [hstep]
    exact ⟨nofun, fun h => absurd (.inl rfl) h⟩
  · have hstep : hostStep (.write off width v) s = hostWrite off width v s := if_neg hc
    rw [hstep]
    exact hostWrite_refused_iff off width v s
end

section
/-! PROOF. Several cores share nothing (spec/20_memory.md R74, spec/70_reset_and_hazards.md R340): every step of a core
draws under the core's own owner, and the other cores of a system stand where they stood. -/

namespace Sys2Proof.Machine

/-! ## Which core an operation draws for -/

@[simp] theorem State.cellDraws_owner (s : State) (i : Nat) : (s.cellDraws i).owner = s.draws.owner := by
  unfold State.cellDraws
  split_ifs <;> rfl

@[simp] theorem State.windowDraws_owner (s : State) (i : Nat) : (s.windowDraws i).owner = s.draws.owner := by
  unfold State.windowDraws
  split_ifs <;> simp

@[simp] theorem State.buildDraws_owner (s : State) : s.buildDraws.owner = s.draws.owner := by
  unfold State.buildDraws
  split_ifs <;> rfl

@[simp] theorem afterWrite_draws (b : Byte) (s : State) : (s.afterWrite b).draws = s.draws := by
  rcases afterWrite_cases b s with ⟨-, h⟩ | ⟨-, h⟩ <;> simp [h]

@[simp] theorem State.compareTrailer_owner (s : State) : s.compareTrailer.draws.owner = s.draws.owner := by
  rcases compareTrailer_cases s with ⟨-, h⟩ | ⟨-, -, h⟩ | ⟨-, -, h⟩ <;> simp [h]

@[simp] theorem State.putTrailerByte_draws (b : Byte) (s : State) : (s.putTrailerByte b).draws = s.draws := by
  obtain ⟨cr, ln, h⟩ := putTrailerByte_eq s b
  rw [h]

@[simp] theorem State.endFlush_draws (s : State) : s.endFlush.draws = s.draws := by
  unfold State.endFlush
  split_ifs <;> rfl

@[simp] theorem checkNlen_owner (v : BitVec 16) (s : State) : (checkNlen v s).draws.owner = s.draws.owner := by
  unfold checkNlen
  split_ifs <;> rfl

@[simp] theorem State.countStored_draws (s : State) : s.countStored.draws = s.draws := by
  unfold State.countStored
  split_ifs <;> rfl

@[simp] theorem takeHclen_owner (v : BitVec 4) (s : State) : (takeHclen v s).draws.owner = s.draws.owner := by
  unfold takeHclen
  split_ifs <;> rfl

@[simp] theorem buildCodeLengthTable_owner (s : State) : (buildCodeLengthTable s).draws.owner = s.draws.owner := by
  unfold buildCodeLengthTable
  split <;> simp

@[simp] theorem buildSymbolTables_owner (s : State) : (buildSymbolTables s).draws.owner = s.draws.owner := by
  unfold buildSymbolTables
  split
  · simp
  · split <;> simp

@[simp] theorem takeDistance_owner (d : BitVec 16) (s : State) : (takeDistance d s).draws.owner = s.draws.owner := by
  unfold takeDistance
  split_ifs <;> rfl

@[simp] theorem State.prepared_draws (s : State) : s.prepared.draws = s.draws := by
  unfold State.prepared
  split_ifs <;> rfl

@[simp] theorem State.consumed_draws (s : State) : s.consumed.draws = s.draws := by
  unfold State.consumed
  split <;> rfl

@[simp] theorem needMoreBits_owner (s : State) : (needMoreBits s).draws.owner = s.draws.owner := by
  rcases needMoreBits_cases s with ⟨b, rest, -, h⟩ | ⟨-, -, h⟩ | ⟨-, -, h⟩ | ⟨-, -, h⟩ <;> simp [h]

@[simp] theorem endStream_draws (s : State) : (endStream s).draws = s.draws := by
  unfold endStream
  split_ifs <;> simp

@[simp] theorem engineAction_owner (s : State) : (engineAction s).draws.owner = s.draws.owner := by
  unfold engineAction
  split
  case h_1 => rfl
  case h_2 => exact buildSymbolTables_owner s
  case h_3 => rw [endStream_draws]
  all_goals rfl

/-! ## Which core an instruction draws for -/

/-- Where the result goes on, its free draws are still those of the core of `s` (notes/assumptions/19.md). -/
def State.KeepsOwner (s : State) (r : Result) : Prop := ∀ t, r = .next t → t.draws.owner = s.draws.owner

theorem keepsOwner_next {s t : State} : s.KeepsOwner (.next t) ↔ t.draws.owner = s.draws.owner :=
  ⟨fun h => h t rfl, by rintro h _ ⟨⟩; exact h⟩

theorem keepsOwner_windowWrite (b : Byte) {s u : State} (h : u.draws.owner = s.draws.owner) :
    s.KeepsOwner (windowWrite b u) := by
  rcases windowWrite_cases b u with ⟨-, he⟩ | ⟨-, he⟩ <;> rw [he]
  · rwa [keepsOwner_next, afterWrite_draws]
  · rintro _ ⟨⟩

theorem keepsOwner_storeLengths (r : Nat) (v : BitVec 4) (s : State) : s.KeepsOwner (storeLengths r v s) := by
  rcases storeLengths_cases r v s with ⟨-, t, he, hs⟩ | ⟨-, he⟩ <;> rw [he]
  · exact keepsOwner_next.2 (congrArg (fun u => u.draws.owner) hs.frame :)
  · rintro _ ⟨⟩

theorem keepsOwner_repeatLengths (r : Nat) (v : BitVec 4) (s : State) : s.KeepsOwner (repeatLengths r v s) := by
  rcases repeatLengths_cases r v s with ⟨-, he⟩ | ⟨-, he⟩ <;> rw [he]
  · exact keepsOwner_next.2 rfl
  · exact keepsOwner_storeLengths r v s

theorem keepsOwner_resume (s : State) : s.KeepsOwner (execResume s) := by
  unfold execResume
  split <;> simp [keepsOwner_next]

theorem keepsOwner_readByte (p : CmdPart) (s : State) : s.KeepsOwner (execReadByte p s) := by
  cases p with
  | command =>
    simp only [execReadByte]
    split_ifs <;> exact keepsOwner_next.2 rfl
  | byte b => exact keepsOwner_next.2 rfl

theorem keepsOwner_check (s : State) : s.KeepsOwner (execCheck s) := by
  unfold execCheck
  split_ifs <;> simp [keepsOwner_next]

theorem keepsOwner_checkTrailer (p : CmdPart) (s : State) : s.KeepsOwner (execCheckTrailer p s) := by
  cases p with
  | command =>
    simp only [execCheckTrailer]
    split_ifs <;> exact keepsOwner_next.2 rfl
  | byte b =>
    simp only [execCheckTrailer]
    split_ifs <;> simp [keepsOwner_next]

theorem keepsOwner_stored (x : StoredField) (s : State) : s.KeepsOwner (execStored x s) := by
  cases x with
  | len v => exact keepsOwner_next.2 rfl
  | nlen v => exact keepsOwner_next.2 (checkNlen_owner v s)
  | byte b => exact keepsOwner_windowWrite b (by rw [State.countStored_draws])

theorem keepsOwner_takeClLen (v : BitVec 3) (s : State) : s.KeepsOwner (takeClLen v s) := by
  unfold takeClLen
  split
  · rintro _ ⟨⟩
  · exact keepsOwner_next.2 rfl

theorem keepsOwner_dynhdr (x : DynField) (s : State) : s.KeepsOwner (execDynhdr x s) := by
  cases x with
  | hlit v | hdist v => exact keepsOwner_next.2 rfl
  | hclen v => exact keepsOwner_next.2 (takeHclen_owner v s)
  | clLen v => exact keepsOwner_takeClLen v s
  | build => exact keepsOwner_next.2 (buildCodeLengthTable_owner s)

theorem keepsOwner_clRepPrev (p : SymPart 2) (s : State) : s.KeepsOwner (execClRepPrev p s) := by
  cases p with
  | code =>
    simp only [execClRepPrev]
    split_ifs <;> exact keepsOwner_next.2 rfl
  | extra e => exact keepsOwner_repeatLengths _ _ s

theorem keepsOwner_lengthElement {x : Nat} (sym : BitVec 9) (base : Nat) (p : SymPart x) (s : State) :
    s.KeepsOwner (.next (lengthElement sym base p s)) := by
  cases p <;> exact keepsOwner_next.2 rfl

/-- A copy from a cell with no value makes a draw of the core's own. -/
theorem keepsOwner_distanceElement {x : Nat} (sym : BitVec 5) (base : Nat) (p : DistPart x) (s : State) :
    s.KeepsOwner (distanceElement sym base p s) := by
  cases p with
  | code => exact keepsOwner_next.2 rfl
  | extra e => exact keepsOwner_next.2 (takeDistance_owner _ s)
  | copy => exact keepsOwner_windowWrite _ (s.cellDraws_owner _)

theorem keepsOwner_exec (i : Instr) (s : State) : s.KeepsOwner (exec i s) := by
  cases i with
  | resume => exact keepsOwner_resume s
  | readByte p => exact keepsOwner_readByte p s
  | check => exact keepsOwner_check s
  | checkTrailer p => exact keepsOwner_checkTrailer p s
  | openStream | cmdReserved w | blkStored f | blkFixed f | blkDynamic f | blkReserved f =>
    exact keepsOwner_next.2 rfl
  | stored x => exact keepsOwner_stored x s
  | dynhdr x => exact keepsOwner_dynhdr x s
  | clLen v => exact keepsOwner_storeLengths 1 v s
  | clRepPrev p => exact keepsOwner_clRepPrev p s
  | clRepZeroS p | clRepZeroL p =>
    cases p with
    | code => exact keepsOwner_next.2 rfl
    | extra e => exact keepsOwner_repeatLengths _ _ s
  | lit c => exact keepsOwner_windowWrite c rfl
  | eob | llInvalid286 | llInvalid287 | distInvalid30 | distInvalid31 => exact keepsOwner_next.2 rfl
  | len257 p | len258 p | len259 p | len260 p | len261 p | len262 p | len263 p | len264 p | len265 p | len266 p
  | len267 p | len268 p | len269 p | len270 p | len271 p | len272 p | len273 p | len274 p | len275 p | len276 p
  | len277 p | len278 p | len279 p | len280 p | len281 p | len282 p | len283 p | len284 p | len285 p =>
    exact keepsOwner_lengthElement _ _ p s
  | dist0 p | dist1 p | dist2 p | dist3 p | dist4 p | dist5 p | dist6 p | dist7 p | dist8 p | dist9 p | dist10 p
  | dist11 p | dist12 p | dist13 p | dist14 p | dist15 p | dist16 p | dist17 p | dist18 p | dist19 p | dist20 p
  | dist21 p | dist22 p | dist23 p | dist24 p | dist25 p | dist26 p | dist27 p | dist28 p | dist29 p =>
    exact keepsOwner_distanceElement _ _ p s

/-! ## Which core a step draws for -/

theorem keepsOwner_coreAction (s : State) : s.KeepsOwner (coreAction s) := by
  rcases coreAction_cases s with
    ⟨-, he⟩ | ⟨c, -, ⟨i, k, -, he⟩ | ⟨n, -, he⟩ | ⟨t, -, he⟩ | ⟨t, -, he⟩ | ⟨-, he⟩⟩ <;> rw [he]
  · exact keepsOwner_next.2 (engineAction_owner s)
  · exact fun t ht => (keepsOwner_exec i s.consumed t ht).trans (by rw [State.consumed_draws])
  · exact keepsOwner_next.2 (by rw [State.consumed_draws])
  · exact keepsOwner_next.2 rfl
  · exact keepsOwner_next.2 rfl
  · rintro _ ⟨⟩

theorem keepsOwner_coreStep (s : State) : s.KeepsOwner (coreStep s) := by
  rcases coreStep_cases s with ⟨-, he⟩ | ⟨-, -, he⟩ | ⟨-, -, he⟩ <;> rw [he]
  · exact keepsOwner_next.2 rfl
  · exact keepsOwner_next.2 (by rw [needMoreBits_owner, State.prepared_draws])
  · exact fun t ht => (keepsOwner_coreAction _ t ht).trans (by rw [State.prepared_draws])

theorem keepsOwner_hostRead (off : Offset) (width : Width) (s : State) : s.KeepsOwner (hostRead off width s) := by
  unfold hostRead
  split_ifs
  · exact keepsOwner_next.2 rfl
  · exact keepsOwner_next.2 (s.windowDraws_owner _)
  · rintro _ ⟨⟩

theorem keepsOwner_hostWrite (off : Offset) (width : Width) (v : Word) (s : State) :
    s.KeepsOwner (hostWrite off width v s) := by
  unfold hostWrite
  split_ifs
  iterate 5 exact keepsOwner_next.2 rfl
  rintro _ ⟨⟩

theorem keepsOwner_hostStep (a : HostAction) (s : State) : s.KeepsOwner (hostStep a s) := by
  cases a with
  | read off width => exact keepsOwner_hostRead off width s
  | write off width v =>
    simp only [hostStep]
    split_ifs
    · exact keepsOwner_exec _ s
    · exact keepsOwner_hostWrite off width v s
  | push b =>
    simp only [hostStep, pushByte]
    split_ifs <;> exact keepsOwner_next.2 rfl
  | signalEof | signalIoErr =>
    simp only [hostStep, signalEnd]
    split_ifs <;> exact keepsOwner_next.2 rfl

theorem keepsOwner_step (s : State) : s.KeepsOwner (step s) := by
  rcases step_cases s with ⟨-, he⟩ | ⟨rest, -, he⟩ | ⟨a, rest, -, he⟩ | ⟨rest, -, he⟩ <;> rw [he]
  · exact keepsOwner_coreStep s
  · exact keepsOwner_coreStep { s with agenda := rest }
  · exact keepsOwner_hostStep a { s with agenda := rest }
  · exact keepsOwner_next.2 rfl

/-! ## Systems of cores -/

/-- The reset values stand with any parameters, window and own fields of the model
(spec/70_reset_and_hazards.md R331, R332). -/
theorem atReset_reset_with (cfg : Params) (m : Memory) (ag : List Turn) (rp : Option HostReply) (dr : Draw) :
    ({ State.reset with config := cfg, window := m, agenda := ag, reply := rp, draws := dr } : State).AtReset := by
  constructor
  case clLens | lens =>
    intro i hi
    simp [State.reset, CoreRegs.reset, hi]
  all_goals rfl

theorem System.getElem_atReset {n : Nat} (params : Vector Params n) (k : Fin n) :
    (System.atReset params)[k] =
      { State.reset with config := params[k], draws := { owner := k.val, number := 0 } } := by
  simp [System.atReset]

theorem System.ownDraws_atReset {n : Nat} (params : Vector Params n) : (System.atReset params).OwnDraws := by
  intro j k h
  rw [getElem_atReset, getElem_atReset] at h
  exact Fin.ext h

/-- Core `k` takes a step just where its own step goes on, and then only its place in the system is written. -/
theorem System.stepAt_eq_some {n : Nat} {sys sys' : System n} {k : Fin n} :
    sys.stepAt k = some sys' ↔ ∃ t, step sys[k] = .next t ∧ sys' = sys.set k t := by
  unfold System.stepAt
  cases step sys[k] <;> simp [eq_comm]

/-- Cores that keep their owners keep them apart. -/
theorem System.OwnDraws.of_owner_eq {n : Nat} {sys sys' : System n} (h : sys.OwnDraws)
    (ho : ∀ j : Fin n, sys'[j].draws.owner = sys[j].draws.owner) : sys'.OwnDraws := by
  intro i j hij
  rw [ho, ho] at hij
  exact h i j hij

end Sys2Proof.Machine

open Sys2Proof.Machine

/-- Settles O60: each core of the reset system is `State.reset` with its own parameters and owner; a step writes only
its core's place (`System.stepAt_eq_some`), and under that core's owner (`keepsOwner_step`). -/
theorem instancesShareNothing : Obligations.InstancesShareNothing := by
  refine ⟨Nat.le_add_left 1 _, fun n params => ⟨System.ownDraws_atReset params, fun k => ?_⟩,
    fun n sys sys' k h => ?_⟩
  · rw [System.getElem_atReset]
    exact ⟨atReset_reset_with params[k] [] [] none _, fun _ => rfl, rfl⟩
  · obtain ⟨t, hstep, rfl⟩ := System.stepAt_eq_some.1 h
    have hself : (sys.set k t)[k] = t := by simp
    have hother : ∀ j : Fin n, j ≠ k → (sys.set k t)[j] = sys[j] := fun j hj =>
      Vector.getElem_set_ne k.isLt j.isLt fun he => hj (Fin.ext he.symm)
    refine ⟨by rw [hself, hstep], hother, fun hown => hown.of_owner_eq fun j => ?_⟩
    by_cases hj : j = k
    · rw [hj, hself]
      exact keepsOwner_step _ t hstep
    · rw [hother j hj]
end

section
/-! PROOF. The canonical codes of a length vector (spec/41_huffman.md R121 to R123): which entries `Build` assigns, and
that where the vector is not over-subscribed no code begins another. -/

namespace Sys2Proof.Machine

/-! ## The status of a length vector -/

/-- One past the last code of length `len`. -/
def codeEnd (lens : List Nat) (len : Nat) : Nat := firstCode lens len + if len = 0 then 0 else blCount lens len

theorem firstCode_succ (lens : List Nat) (len : Nat) : firstCode lens (len + 1) = 2 * codeEnd lens len := rfl

theorem codeEnd_succ (lens : List Nat) (len : Nat) :
    codeEnd lens (len + 1) = 2 * codeEnd lens len + blCount lens (len + 1) := rfl

theorem kraftStatus_ne_empty (lens ls : List Nat) (left : Int) : kraftStatus lens ls left ≠ .empty := by
  induction ls generalizing left with
  | nil => unfold kraftStatus; split_ifs <;> decide
  | cons len rest ih =>
    simp only [kraftStatus]
    split_ifs
    · decide
    · exact ih _

/-- A vector of lengths up to 15 is EMPTY where no symbol is used (spec/41_huffman.md R122). -/
theorem tableStatus_eq_empty_iff {lens : List Nat} (hle : ∀ l ∈ lens, l ≤ 15) :
    tableStatus lens = .empty ↔ ∀ l ∈ lens, l = 0 := by
  have hcount : (codeLengths.all fun len => blCount lens len == 0) = true ↔ ∀ l ∈ lens, l = 0 := by
    simp only [List.all_eq_true, beq_iff_eq, blCount, List.count_eq_zero, codeLengths, Config.maxBits,
      List.mem_range'_1]
    constructor
    · intro h l hl
      by_contra h0
      exact h l ⟨by omega, by have := hle l hl; omega⟩ hl
    · intro h l hl hmem
      have := h l hmem
      omega
  rw [← hcount]
  unfold tableStatus
  split_ifs with h
  · simp [h]
  · simp [h, kraftStatus_ne_empty]

/-- `left` counts the codes of the lengths seen that are still free, so that what is not over-subscribed never has more
codes of a length than there are (spec/41_huffman.md R121). -/
theorem codeEnd_le_of_kraftStatus {lens : List Nat} {len m : Nat}
    (h : kraftStatus lens (List.range' (len + 1) m) (2 ^ len - codeEnd lens len : Int) ≠ .oversub) :
    ∀ k, len < k → k ≤ len + m → codeEnd lens k ≤ 2 ^ k := by
  induction m generalizing len with
  | zero => intro k h1 h2; omega
  | succ m ih =>
    have hleft : (2 * (2 ^ len - codeEnd lens len) - blCount lens (len + 1) : Int)
        = 2 ^ (len + 1) - codeEnd lens (len + 1) := by
      rw [codeEnd_succ]
      push_cast
      ring
    simp only [List.range'_succ, kraftStatus, hleft] at h
    split_ifs at h with hneg
    · exact absurd rfl h
    · intro k h1 h2
      obtain rfl | hk : k = len + 1 ∨ len + 1 < k := by omega
      · zify
        omega
      · exact ih h k hk (by omega)

section
variable {lens : List Nat} (hle : ∀ l ∈ lens, l ≤ 15) (hos : tableStatus lens ≠ .oversub)
include hle hos

/-- The codes of a used length fit in it. -/
theorem codeEnd_le {l : Nat} (hl : l ∈ lens) (h0 : l ≠ 0) : codeEnd lens l ≤ 2 ^ l := by
  have hne : tableStatus lens ≠ .empty := fun h => h0 ((tableStatus_eq_empty_iff hle).1 h l hl)
  have hk : kraftStatus lens (List.range' (0 + 1) 15) (2 ^ 0 - codeEnd lens 0 : Int) ≠ .oversub := by
    intro h
    unfold tableStatus at hne hos
    split_ifs at hne hos
    · exact hne rfl
    · exact hos h
  exact codeEnd_le_of_kraftStatus hk l (by omega) (by have := hle l hl; omega)
end

/-- The codes of a longer length start past all that continue the codes of a shorter one (spec/41_huffman.md R123). -/
theorem codeEnd_mul_le_firstCode (lens : List Nat) (len d : Nat) :
    codeEnd lens len * 2 ^ (d + 1) ≤ firstCode lens (len + d + 1) := by
  induction d with
  | zero => rw [Nat.add_zero, firstCode_succ]; omega
  | succ d ih =>
    have hend : firstCode lens (len + d + 1) ≤ codeEnd lens (len + d + 1) := Nat.le_add_right _ _
    rw [show len + (d + 1) + 1 = len + d + 1 + 1 by omega, firstCode_succ, Nat.pow_succ, ← Nat.mul_assoc]
    omega

/-! ## The codes assigned -/

/-- The symbols of one length are counted in order. -/
theorem count_take_lt {lens : List Nat} {i j l : Nat} (hi : lens[i]? = some l) (hij : i < j) :
    (lens.take i).count l < (lens.take j).count l := by
  have hstep : (lens.take (i + 1)).count l = (lens.take i).count l + 1 := by
    rw [List.take_add_one, hi]
    simp
  have hmono : (lens.take (i + 1)).count l ≤ (lens.take j).count l :=
    (List.take_sublist_take_left hij).count_le l
  omega

/-- The codes assigned: to each symbol of a nonzero length, the next code of its length (spec/41_huffman.md R123). -/
theorem mem_assignCodes {sym : Nat} {next lens : List Nat} (h : ∀ l ∈ lens, l < next.length) (e : CodeEntry) :
    e ∈ assignCodes sym next lens ↔ ∃ i l, lens[i]? = some l ∧ l ≠ 0 ∧
      e = { sym := sym + i, len := l, code := next.getD l 0 + (lens.take i).count l } := by
  induction lens generalizing sym next with
  | nil => simp [assignCodes]
  | cons len rest ih =>
    have hrest : ∀ l ∈ rest, l < next.length := fun l hl => h l (List.mem_cons_of_mem _ hl)
    have hsym : ∀ i, sym + 1 + i = sym + (i + 1) := fun i => by omega
    rw [← Nat.or_exists_add_one, assignCodes]
    split_ifs with h0
    · subst h0
      have hskip : ∀ i l : Nat, l ≠ 0 → ((0 :: rest).take (i + 1)).count l = (rest.take i).count l := by
        intro i l hl
        simp [hl.symm]
      rw [ih hrest, or_iff_right (by rintro ⟨l, hi, hl, -⟩; exact hl (Option.some.inj hi).symm)]
      refine exists_congr fun i => exists_congr fun l => and_congr_right fun _ => and_congr_right fun hl => ?_
      rw [hskip i l hl, hsym]
    · have hlen : len < next.length := h len List.mem_cons_self
      have hnext : ∀ i l : Nat, (next.set len (next.getD len 0 + 1)).getD l 0 + (rest.take i).count l
          = next.getD l 0 + ((len :: rest).take (i + 1)).count l := by
        intro i l
        by_cases hl : len = l
        · subst hl
          simp [hlen]
          omega
        · simp [hl]
      rw [List.mem_cons, ih (by simpa using hrest)]
      refine or_congr ?_ (exists_congr fun i => exists_congr fun l => ?_)
      · simp [h0]
      · rw [hnext, hsym, List.getElem?_cons_succ]

theorem getD_initialCodes (lens : List Nat) {l : Nat} (h : l ≤ 15) :
    (initialCodes lens).getD l 0 = firstCode lens l := by
  have hlt : l < Config.maxBits + 1 := Nat.lt_succ_of_le h
  simp [initialCodes, List.getElem?_range hlt]

section
variable {lens : List Nat} (hle : ∀ l ∈ lens, l ≤ 15) (hos : tableStatus lens ≠ .oversub)
include hle hos

/-- `Build` assigns to each used symbol its length's first code, and after it one for each earlier symbol of that length
(spec/41_huffman.md R123). -/
theorem mem_codes_buildTable (e : CodeEntry) : e ∈ (buildTable lens).codes ↔
    lens[e.sym]? = some e.len ∧ e.len ≠ 0 ∧ e.code = firstCode lens e.len + (lens.take e.sym).count e.len := by
  have hlen : ∀ l ∈ lens, l < (initialCodes lens).length := fun l hl => by
    have := hle l hl
    simp [initialCodes, Config.maxBits]
    omega
  have hcodes : (buildTable lens).codes = assignCodes 0 (initialCodes lens) lens := if_neg hos
  rw [hcodes, mem_assignCodes hlen]
  constructor
  · rintro ⟨i, l, hi, h0, rfl⟩
    rw [getD_initialCodes lens (hle l (List.mem_of_getElem? hi)), Nat.zero_add]
    exact ⟨hi, h0, rfl⟩
  · rintro ⟨hi, h0, hc⟩
    refine ⟨e.sym, e.len, hi, h0, ?_⟩
    rw [getD_initialCodes lens (hle _ (List.mem_of_getElem? hi)), ← hc, Nat.zero_add]

/-- The codes of a length lie between the first and the last of that length. -/
theorem code_bounds {e : CodeEntry} (he : e ∈ (buildTable lens).codes) :
    firstCode lens e.len ≤ e.code ∧ e.code < codeEnd lens e.len ∧ e.code < 2 ^ e.len := by
  obtain ⟨hi, h0, hc⟩ := (mem_codes_buildTable hle hos e).1 he
  obtain ⟨hlt, -⟩ := List.getElem?_eq_some_iff.1 hi
  have hcount := count_take_lt hi hlt
  rw [List.take_length] at hcount
  have hend : codeEnd lens e.len = firstCode lens e.len + lens.count e.len := by rw [codeEnd, if_neg h0, blCount]
  have hfit := codeEnd_le hle hos (List.mem_of_getElem? hi) h0
  omega

end

/-! ## The bits of a code -/

theorem take_codeBits {m n : Nat} (h : m ≤ n) (c : Nat) : (codeBits n c).take m = codeBits m (c / 2 ^ (n - m)) := by
  rw [codeBits, codeBits, List.take_reverse, length_bitsOf, drop_bitsOf, Nat.sub_sub_self h]

theorem codeBits_inj {n c c' : Nat} (hc : c < 2 ^ n) (hc' : c' < 2 ^ n) (h : codeBits n c = codeBits n c') : c = c' :=
  bitsOf_inj hc hc' (List.reverse_injective h)

/-- A code that begins another is its first bits. -/
theorem eq_div_of_codeBits_prefix {m n c c' : Nat} (hc : c < 2 ^ m) (hc' : c' < 2 ^ n)
    (h : codeBits m c <+: codeBits n c') : m ≤ n ∧ c = c' / 2 ^ (n - m) := by
  have hmn : m ≤ n := by simpa using h.length_le
  rw [List.prefix_iff_eq_take, length_codeBits, take_codeBits hmn] at h
  refine ⟨hmn, codeBits_inj hc (Nat.div_lt_of_lt_mul ?_) h⟩
  rwa [← Nat.pow_add, Nat.sub_add_cancel hmn]

theorem toNat_pushBit {h : BitVec 15} (b : Bool) (hh : h.toNat < 2 ^ 14) :
    (pushBit h b).toNat = 2 * h.toNat + b.toNat := by
  have hor := Nat.two_pow_add_eq_or_of_lt (i := 1) (b := b.toNat) (by cases b <;> decide) h.toNat
  have hbit : (if b then 1 else 0 : BitVec 15).toNat = b.toNat := by cases b <;> rfl
  rw [pushBit, BitVec.toNat_or, BitVec.toNat_shiftLeft, hbit, Nat.shiftLeft_eq, Nat.mul_comm h.toNat,
    Nat.mod_eq_of_lt (by omega), ← hor, Nat.pow_one]

/-- One more bit read goes behind the bits read before it (spec/41_huffman.md R131). -/
theorem codeBits_pushBit {n : Nat} {h : BitVec 15} (b : Bool) (hn : n < 15) (hh : h.toNat < 2 ^ n) :
    (pushBit h b).toNat < 2 ^ (n + 1) ∧ codeBits (n + 1) (pushBit h b).toNat = codeBits n h.toNat ++ [b] := by
  have hb : b.toNat < 2 := by cases b <;> decide
  have hpow : 2 ^ n ≤ 2 ^ 14 := Nat.pow_le_pow_right (by decide) (by omega)
  rw [toNat_pushBit b (by omega), codeBits_succ, show (2 * h.toNat + b.toNat) / 2 = h.toNat by omega, Nat.pow_succ]
  refine ⟨by omega, ?_⟩
  cases b <;> simp [Nat.testBit_zero, Nat.add_mod]

/-! ## Tables no code of which begins another -/

theorem Table.maxlen_eq (t : Table) : t.maxlen = t.lens.foldr max ⊥ := List.foldl_eq_foldr ..

/-- What a decode relies on: lengths within `MAXBITS`, codes within their lengths, one code for each symbol, and no code
the beginning of another. -/
structure Table.IsPrefixCode (t : Table) : Prop where
  maxlen_le : t.maxlen ≤ 15
  len_pos : ∀ e ∈ t.codes, 0 < e.len
  len_le : ∀ e ∈ t.codes, e.len ≤ t.maxlen
  code_lt : ∀ e ∈ t.codes, e.code < 2 ^ e.len
  sym_inj : ∀ e ∈ t.codes, ∀ e' ∈ t.codes, e.sym = e'.sym → e = e'
  prefix_inj : ∀ e ∈ t.codes, ∀ e' ∈ t.codes, codeBits e.len e.code <+: codeBits e'.len e'.code → e = e'

section
variable {lens : List Nat} (hle : ∀ l ∈ lens, l ≤ 15) (hos : tableStatus lens ≠ .oversub)
include hle hos

/-- A symbol has one code. -/
theorem eq_of_sym_eq {e e' : CodeEntry} (he : e ∈ (buildTable lens).codes) (he' : e' ∈ (buildTable lens).codes)
    (h : e.sym = e'.sym) : e = e' := by
  obtain ⟨hi, -, hc⟩ := (mem_codes_buildTable hle hos e).1 he
  obtain ⟨hi', -, hc'⟩ := (mem_codes_buildTable hle hos e').1 he'
  cases e
  cases e'
  cases h
  cases Option.some.inj (hi.symm.trans hi')
  exact congrArg _ (hc.trans hc'.symm)

/-- Codes of one length are those of different symbols (spec/41_huffman.md R123). -/
theorem sym_eq_of_code_eq {e e' : CodeEntry} (he : e ∈ (buildTable lens).codes) (he' : e' ∈ (buildTable lens).codes)
    (hlen : e.len = e'.len) (hcode : e.code = e'.code) : e.sym = e'.sym := by
  obtain ⟨hi, -, hc⟩ := (mem_codes_buildTable hle hos e).1 he
  obtain ⟨hi', -, hc'⟩ := (mem_codes_buildTable hle hos e').1 he'
  rw [← hlen] at hi' hc'
  rcases Nat.lt_trichotomy e.sym e'.sym with hlt | heq | hgt
  · have := count_take_lt hi hlt
    omega
  · exact heq
  · have := count_take_lt hi' hgt
    omega

/-- No code begins another: the codes of a longer length start past its continuations. -/
theorem eq_of_codeBits_prefix {e e' : CodeEntry} (he : e ∈ (buildTable lens).codes)
    (he' : e' ∈ (buildTable lens).codes) (h : codeBits e.len e.code <+: codeBits e'.len e'.code) : e = e' := by
  obtain ⟨-, hend, hlt⟩ := code_bounds hle hos he
  obtain ⟨hfirst, -, hlt'⟩ := code_bounds hle hos he'
  obtain ⟨hmn, hdiv⟩ := eq_div_of_codeBits_prefix hlt hlt' h
  rcases Nat.eq_or_lt_of_le hmn with hlen | hshort
  · rw [hlen, Nat.sub_self, Nat.pow_zero, Nat.div_one] at hdiv
    exact eq_of_sym_eq hle hos he he' (sym_eq_of_code_eq hle hos he he' hlen hdiv)
  · have hlong := codeEnd_mul_le_firstCode lens e.len (e'.len - e.len - 1)
    rw [show e'.len - e.len - 1 + 1 = e'.len - e.len by omega,
      show e.len + (e'.len - e.len - 1) + 1 = e'.len by omega] at hlong
    have hge : codeEnd lens e.len ≤ e'.code / 2 ^ (e'.len - e.len) :=
      (Nat.le_div_iff_mul_le (Nat.two_pow_pos _)).2 (hlong.trans hfirst)
    omega

/-- The tables that `Build` gives for lengths up to 15 that are not over-subscribed (spec/41_huffman.md R123, R125). -/
theorem isPrefixCode_buildTable : (buildTable lens).IsPrefixCode where
  maxlen_le := by
    rw [Table.maxlen_eq]
    exact List.max_le_of_forall_le lens 15 hle
  len_pos e he := Nat.pos_of_ne_zero ((mem_codes_buildTable hle hos e).1 he).2.1
  len_le e he := by
    rw [Table.maxlen_eq]
    exact List.le_max_of_le (List.mem_of_getElem? ((mem_codes_buildTable hle hos e).1 he).1) le_rfl
  code_lt e he := (code_bounds hle hos he).2.2
  sym_inj _ he _ he' := eq_of_sym_eq hle hos he he'
  prefix_inj _ he _ he' := eq_of_codeBits_prefix hle hos he he'

/-- A table with a code is not EMPTY. -/
theorem status_ne_empty_of_mem {e : CodeEntry} (he : e ∈ (buildTable lens).codes) :
    (buildTable lens).status ≠ .empty := by
  obtain ⟨hi, h0, -⟩ := (mem_codes_buildTable hle hos e).1 he
  exact fun h => h0 ((tableStatus_eq_empty_iff hle).1 h _ (List.mem_of_getElem? hi))

end

/-- A table that is not EMPTY has a code of at least one bit. -/
theorem maxlen_pos_of_status_ne_empty {lens : List Nat} (hle : ∀ l ∈ lens, l ≤ 15)
    (h : (buildTable lens).status ≠ .empty) :
    0 < (buildTable lens).maxlen := by
  have hused : ¬ ∀ l ∈ lens, l = 0 := fun hz => h ((tableStatus_eq_empty_iff hle).2 hz)
  push Not at hused
  obtain ⟨l, hl, h0⟩ := hused
  rw [Table.maxlen_eq]
  exact (Nat.pos_of_ne_zero h0).trans_le (List.le_max_of_le hl le_rfl)

/-- The entry `codeOf` finds is the symbol's only one. -/
theorem codeOf_eq_some_iff {t : Table} (ht : t.IsPrefixCode) {sym : Nat} {e : CodeEntry} :
    t.codeOf sym = some e ↔ e ∈ t.codes ∧ e.sym = sym := by
  have found : ∀ e', t.codeOf sym = some e' → e' ∈ t.codes ∧ e'.sym = sym := fun e' h =>
    ⟨List.mem_of_find?_eq_some h, by simpa using List.find?_some h⟩
  refine ⟨found e, fun ⟨he, hsym⟩ => ?_⟩
  obtain ⟨e', hf⟩ : ∃ e', t.codeOf sym = some e' :=
    Option.isSome_iff_exists.1 (List.find?_isSome.2 ⟨e, he, by simpa using hsym⟩)
  obtain ⟨he', hsym'⟩ := found e' hf
  rw [hf, ht.sym_inj e' he' e he (hsym'.trans hsym.symm)]

theorem lookup_eq_some {t : Table} {len code sym : Nat} (h : t.lookup len code = some sym) :
    ∃ e ∈ t.codes, e.len = len ∧ e.code = code ∧ e.sym = sym := by
  obtain ⟨e, hf, rfl⟩ := Option.map_eq_some_iff.1 h
  obtain ⟨hlen, hcode⟩ : e.len = len ∧ e.code = code := by simpa using List.find?_some hf
  exact ⟨e, List.mem_of_find?_eq_some hf, hlen, hcode, rfl⟩

theorem lookup_eq_none {t : Table} {len code : Nat} (h : t.lookup len code = none) :
    ∀ e ∈ t.codes, e.len = len → e.code ≠ code := by
  rintro e he rfl rfl
  simpa using List.find?_eq_none.1 (Option.map_eq_none_iff.1 h) e he

/-! ## Decoding bit by bit -/

theorem toNat_succ_of_lt {n : BitVec 4} (h : n.toNat < 15) : (n + 1).toNat = n.toNat + 1 := by
  rw [BitVec.toNat_add]
  exact Nat.mod_eq_of_lt (Nat.succ_lt_succ h)

section
variable {t : Table} (ht : t.IsPrefixCode) (a : Alphabet)
include ht

/-- A code's bits decode to its symbol, whatever follows them: no shorter code matches them (spec/41_huffman.md R131). -/
theorem decodeCode_of_codeBits {e : CodeEntry} (he : e ∈ t.codes) (rest : List Bool) {more : List Bool}
    (hne : more ≠ []) {h : BitVec 15} {n : BitVec 4} (hh : h.toNat < 2 ^ n.toNat)
    (hb : codeBits e.len e.code = codeBits n.toNat h.toNat ++ more) :
    decodeCode t a h n (more ++ rest) = .ok (e.sym, more.length) := by
  induction more generalizing h n with
  | nil => exact absurd rfl hne
  | cons b more ih =>
    have hlen : e.len = n.toNat + (more.length + 1) := by simpa using congrArg List.length hb
    have hmax := ht.len_le e he
    have hmax15 := ht.maxlen_le
    have hsucc := toNat_succ_of_lt (n := n) (by omega)
    obtain ⟨hlt, hpush⟩ := codeBits_pushBit b (show n.toNat < 15 by omega) hh
    rw [← hsucc] at hlt hpush
    have hb' : codeBits e.len e.code = codeBits (n + 1).toNat (pushBit h b).toNat ++ more := by rw [hpush, hb]; simp
    simp only [List.cons_append, decodeCode]
    cases hl : t.lookup (n + 1).toNat (pushBit h b).toNat with
    | some sym =>
      obtain ⟨e', he', hlen', hcode', rfl⟩ := lookup_eq_some hl
      obtain rfl := ht.prefix_inj e' he' e he ⟨more, by rw [hb', hlen', hcode']⟩
      have hnil : more = [] := List.length_eq_zero_iff.1 (by omega)
      rw [hnil]
      rfl
    | none =>
      have hmore : more ≠ [] := by
        rintro rfl
        have hel : e.len = (n + 1).toNat := hlen.trans hsucc.symm
        rw [List.append_nil, ← hel] at hb'
        exact lookup_eq_none hl e he hel (codeBits_inj (ht.code_lt e he) (hel ▸ hlt) hb')
      have hpos := List.length_pos_of_ne_nil hmore
      dsimp only
      rw [if_neg (by omega), ih hmore hlt hb']
      rfl

/-- What decodes is a code: the bits read before and the bits taken are its bits (spec/41_huffman.md R131). -/
theorem codeBits_of_decodeCode {bits : List Bool} {h : BitVec 15} {n : BitVec 4} {sym k : Nat}
    (hn : n.toNat < t.maxlen) (hh : h.toNat < 2 ^ n.toNat) (hd : decodeCode t a h n bits = .ok (sym, k)) :
    k ≤ bits.length ∧
      ∃ e ∈ t.codes, e.sym = sym ∧ codeBits e.len e.code = codeBits n.toNat h.toNat ++ bits.take k := by
  induction bits generalizing h n k with
  | nil => cases hd
  | cons b bits ih =>
    have hmax15 := ht.maxlen_le
    have hsucc := toNat_succ_of_lt (n := n) (by omega)
    obtain ⟨hlt, hpush⟩ := codeBits_pushBit b (show n.toNat < 15 by omega) hh
    rw [← hsucc] at hlt hpush
    simp only [decodeCode] at hd
    split at hd
    · next sym' hl =>
      cases hd
      obtain ⟨e, he, hlen, hcode, hsym⟩ := lookup_eq_some hl
      exact ⟨by simp, e, he, hsym, by rw [hlen, hcode, hpush]; rfl⟩
    · next hl =>
      split_ifs at hd with hm
      split at hd
      · next sym' k' hd' =>
        cases hd
        obtain ⟨hk, e, he, hsym, hbits⟩ := ih (by omega) hlt hd'
        exact ⟨Nat.succ_le_succ hk, e, he, hsym, by rw [hbits, hpush]; simp⟩
      · cases hd

end

end Sys2Proof.Machine
end

section
/-! PROOF. Decoding and encoding are inverse (spec/30_encoding.md R80 to R91): instruction by instruction for symbols and
integer fields, then for every context. -/

namespace Sys2Proof.Machine

/-! ## Commands and headers -/

/-- A word is the word of the command it decodes to (spec/30_encoding.md R91). -/
theorem commandWord_decodeCommand (w : Word) : (decodeCommand w).commandWord = some w := by
  unfold decodeCommand
  split_ifs with h1 h2 h3 h4 h5
  · exact congrArg some h1.symm
  · exact congrArg some h2.symm
  · exact congrArg some h3.symm
  · exact congrArg some h4.symm
  · exact congrArg some h5.symm
  · rfl

theorem decodeCommand_reserved {w : Word} (h : w = 0 ∨ 6 ≤ w.toNat) : decodeCommand w = .cmdReserved w := by
  unfold decodeCommand
  rw [if_neg, if_neg, if_neg, if_neg, if_neg] <;> rintro rfl <;> simp at h

/-- A command's word decodes to it (spec/30_encoding.md R91). -/
theorem decodeCommand_of_commandWord {i : Instr} {w : Word} (h : i.commandWord = some w) (hwf : i.wf = true) :
    decodeCommand w = i := by
  unfold Instr.commandWord at h
  split at h
  · cases h; rfl
  · cases h; rfl
  · cases h; rfl
  · cases h; rfl
  · cases h; rfl
  · cases h
    have hw : w.toNat = 0 ∨ 5 < w.toNat := by simpa [Instr.wf, isCommandWord] using hwf
    exact decodeCommand_reserved (hw.imp (fun h0 => BitVec.eq_of_toNat_eq h0) id)
  · cases h

/-- The three bits of a header decode to it (spec/30_encoding.md R81). -/
theorem decodeHeader_of_headerFields {i : Instr} {f : Bool} {k : Nat} (h : i.headerFields = some (f, k)) :
    decodeHeader (natOfBits (f :: bitsOf 2 k)) = i := by
  unfold Instr.headerFields at h
  split at h <;> cases h <;> cases f <;> rfl

/-- A header's type and flag are the upper bits and bit 0 of its integer (spec/30_encoding.md R81). -/
theorem headerFields_decodeHeader {h : Nat} (hlt : h < 8) :
    (decodeHeader h).headerFields = some (h.testBit 0, h / 2) := by
  interval_cases h <;> rfl

/-! ## Symbols -/

/-- An instruction that is a symbol's code is what the symbol decodes to (spec/30_encoding.md R85 to R87). -/
theorem symbolInstr_of_symbol {i : Instr} {a : Alphabet} {sym : Nat} (h : i.symbol = some (a, sym)) :
    symbolInstr a sym = some i := by
  cases i
  case clLen v =>
    cases h
    have hv := v.isLt
    simp [symbolInstr, entryOf, show v.toNat < 19 by omega, show v.toNat < 16 by omega]
  case lit c =>
    cases h
    have hc := c.isLt
    simp [symbolInstr, entryOf, show c.toNat < 256 by omega]
  case readByte p | checkTrailer p | stored p | dynhdr p => cases p <;> cases h
  case openStream | resume | check | cmdReserved w | blkStored f | blkFixed f | blkDynamic f | blkReserved f => cases h
  all_goals first
    | (cases h; rfl)
    | (rename_i p; cases p <;> cases h; rfl)

theorem symbol_lengthInstrs {m x base : Nat} {p : Instr × (Nat → Instr)} (hr : lengthRow m = some (x, base))
    (hi : lengthInstrs[m - 257]? = some p) : p.1.symbol = some (.ll, m) := by
  obtain ⟨h1, h2, -⟩ := lengthRow_bounds hr
  interval_cases m <;> cases hi <;> rfl

theorem symbol_distanceInstrs {d x base : Nat} {p : Instr × (Nat → Instr) × Instr}
    (hr : distanceRow d = some (x, base)) (hi : distanceInstrs[d]? = some p) : p.1.symbol = some (.dist, d) := by
  obtain ⟨h1, -⟩ := distanceRow_bounds hr
  interval_cases d <;> cases hi <;> rfl

/-- What a code-length symbol decodes to is its code (spec/42_block.md R166 to R169). -/
theorem symbol_of_symbolInstr_cl {sym : Nat} {i : Instr} (h : symbolInstr .cl sym = some i) :
    i.symbol = some (.cl, sym) := by
  rw [symbolInstr, entryOf] at h
  by_cases hlt : sym < 19
  · rw [if_pos hlt] at h
    dsimp only at h
    split_ifs at h with hlen h16 h17
    · cases h
      exact congrArg (fun v => some (Alphabet.cl, v)) (Nat.mod_eq_of_lt hlen)
    · cases h
      rw [h16]
      rfl
    · cases h
      rw [h17]
      rfl
    · cases h
      rw [show sym = 18 by omega]
      rfl
  · rw [if_neg hlt] at h
    cases h

/-- What a literal/length symbol decodes to is its code (spec/43_symbols.md R181 to R184). -/
theorem symbol_of_symbolInstr_ll {sym : Nat} {i : Instr} (h : symbolInstr .ll sym = some i) :
    i.symbol = some (.ll, sym) := by
  by_cases hlit : sym < 256
  · rw [symbolInstr, entryOf, if_pos hlit] at h
    cases h
    exact congrArg (fun v => some (Alphabet.ll, v)) (Nat.mod_eq_of_lt hlit)
  by_cases heob : sym = 256
  · subst heob
    cases h
    rfl
  rw [symbolInstr, entryOf, if_neg hlit, if_neg heob] at h
  cases hr : lengthRow sym with
  | some row =>
    simp only [hr] at h
    obtain ⟨p, hi, rfl⟩ := Option.map_eq_some_iff.1 h
    exact symbol_lengthInstrs hr hi
  | none =>
    have hge : ¬ sym ≤ 285 := fun hle => by
      obtain ⟨x, base, hs⟩ := exists_lengthRow (m := sym) (by omega) hle
      simp [hr] at hs
    simp only [hr] at h
    by_cases hlt : sym < 288
    · obtain rfl | rfl : sym = 286 ∨ sym = 287 := by omega
      · cases h; rfl
      · cases h; rfl
    · simp [hlt] at h

/-- What a distance symbol decodes to is its code (spec/43_symbols.md R214 to R246). -/
theorem symbol_of_symbolInstr_dist {sym : Nat} {i : Instr} (h : symbolInstr .dist sym = some i) :
    i.symbol = some (.dist, sym) := by
  rw [symbolInstr, entryOf] at h
  cases hr : distanceRow sym with
  | some row =>
    simp only [hr] at h
    obtain ⟨p, hi, rfl⟩ := Option.map_eq_some_iff.1 h
    exact symbol_distanceInstrs hr hi
  | none =>
    have hge : ¬ sym ≤ 29 := fun hle => by
      obtain ⟨x, base, hs⟩ := exists_distanceRow hle
      simp [hr] at hs
    simp only [hr] at h
    by_cases hlt : sym < 32
    · obtain rfl | rfl : sym = 30 ∨ sym = 31 := by omega
      · cases h; rfl
      · cases h; rfl
    · simp [hlt] at h

/-- What a symbol decodes to is the symbol's code (spec/30_encoding.md R85 to R87). -/
theorem symbol_of_symbolInstr {a : Alphabet} {sym : Nat} {i : Instr} (h : symbolInstr a sym = some i) :
    i.symbol = some (a, sym) := by
  cases a with
  | cl => exact symbol_of_symbolInstr_cl h
  | ll => exact symbol_of_symbolInstr_ll h
  | dist => exact symbol_of_symbolInstr_dist h

/-! ## Integer fields -/

/-- The contexts of an integer field: neither a command, nor a header, nor a symbol's code. -/
def ReadsField (c : Ctx) : Prop := c ≠ .command ∧ c ≠ .header ∧ ∀ a t h n, c ≠ .symbol a t h n

theorem readsField_cases (c : Ctx) :
    c = .command ∨ c = .header ∨ (∃ a t h n, c = .symbol a t h n) ∨ ReadsField c := by
  cases c
  case command => exact .inl rfl
  case header => exact .inr (.inl rfl)
  case symbol a t h n => exact .inr (.inr (.inl ⟨a, t, h, n, rfl⟩))
  all_goals exact .inr (.inr (.inr ⟨nofun, nofun, nofun⟩))

theorem encode_of_field {c : Ctx} {i : Instr} {n v : Nat} (hc : ReadsField c) (h : i.field = some (c, n, v)) :
    encode c i = bitsOf n v := by
  obtain ⟨hcmd, hhdr, hsym⟩ := hc
  cases c
  case command => exact absurd rfl hcmd
  case header => exact absurd rfl hhdr
  case symbol => exact absurd rfl (hsym _ _ _ _)
  all_goals simp only [encode, h]

theorem fits_iff_field {c : Ctx} {i : Instr} (hc : ReadsField c) :
    i.fits c = true ↔ ∃ n v, i.field = some (c, n, v) := by
  have hfits : i.fits c = (match i.field with | some (c', _, _) => c' == c | none => false) := by
    obtain ⟨hcmd, hhdr, hsym⟩ := hc
    cases c
    case command => exact absurd rfl hcmd
    case header => exact absurd rfl hhdr
    case symbol => exact absurd rfl (hsym _ _ _ _)
    all_goals rfl
  rw [hfits]
  rcases i.field with _ | ⟨c', n, v⟩ <;> simp

theorem decodeField_bitsOf {n v : Nat} (mk : Nat → Instr) (hv : v < 2 ^ n) (rest : List Bool) :
    decodeField n mk (bitsOf n v ++ rest) = .ok (mk v, n) := by
  have htake : (bitsOf n v ++ rest).take n = bitsOf n v := List.take_left' (length_bitsOf n v)
  rw [decodeField, if_neg (by simp), htake, natOfBits_bitsOf, Nat.mod_eq_of_lt hv]

/-- An integer field's bits decode to the instruction it is, and an action that reads no bits decodes without any
(spec/30_encoding.md R82, R83, R88). -/
theorem decode_of_field {c : Ctx} {i : Instr} {n v : Nat} (h : i.field = some (c, n, v)) (rest : List Bool) :
    decode c (bitsOf n v ++ rest) = .ok (i, n) := by
  have operand : ∀ {x : Nat} {j : Instr} (mk : BitVec x → Instr) (e : BitVec x), mk e = j →
      (∀ bits, decode c bits = decodeField x (fun v => mk (BitVec.ofNat x v)) bits) →
      decode c (bitsOf x e.toNat ++ rest) = .ok (j, x) := by
    intro x j mk e hj hd
    rw [hd, decodeField_bitsOf _ e.isLt, BitVec.ofNat_toNat, BitVec.setWidth_eq, hj]
  -- no field; an operand as wide as its field; an action that reads no bits
  cases i
  all_goals first
    | cases h
    | (rename_i p
       cases p <;> cases h <;> first
        | (apply operand
           · rfl
           · exact fun _ => rfl)
        | rfl)

theorem bitsOf_natOfBits_take {k : Nat} {bits : List Bool} (h : k ≤ bits.length) :
    bitsOf k (natOfBits (bits.take k)) = bits.take k := by
  have hbits := bitsOf_natOfBits (bits.take k)
  rwa [List.length_take_of_le h] at hbits

theorem natOfBits_take_lt {k : Nat} {bits : List Bool} (h : k ≤ bits.length) : natOfBits (bits.take k) < 2 ^ k := by
  have hlt := natOfBits_lt (bits.take k)
  rwa [List.length_take_of_le h] at hlt

/-- What a field decodes to is a field of the bits taken. -/
theorem field_of_decodeField {c : Ctx} {n k : Nat} {mk : Nat → Instr} {bits : List Bool} {i : Instr}
    (hmk : ∀ v, (mk v).field = some (c, n, v % 2 ^ n)) (h : decodeField n mk bits = .ok (i, k)) :
    k ≤ bits.length ∧ i.field = some (c, k, natOfBits (bits.take k)) := by
  obtain ⟨hlen, rfl, rfl⟩ := decodeField_ok h
  exact ⟨hlen, by rw [hmk, Nat.mod_eq_of_lt (natOfBits_take_lt hlen)]⟩

theorem field_lengthInstrs {m x base : Nat} {code : Instr} {extra : Nat → Instr} (hr : lengthRow m = some (x, base))
    (hi : lengthInstrs[m - 257]? = some (code, extra)) (v : Nat) :
    (extra v).field = some (.lengthExtra m, x, v % 2 ^ x) := by
  obtain ⟨h1, h2, -⟩ := lengthRow_bounds hr
  interval_cases m <;> cases hr <;> cases hi <;> rfl

theorem field_distanceInstrs {d x base : Nat} {code copy : Instr} {extra : Nat → Instr}
    (hr : distanceRow d = some (x, base)) (hi : distanceInstrs[d]? = some (code, extra, copy)) :
    (∀ v, (extra v).field = some (.distExtra d, x, v % 2 ^ x)) ∧ copy.field = some (.copy d, 0, 0) := by
  obtain ⟨h1, -⟩ := distanceRow_bounds hr
  interval_cases d <;> cases hr <;> cases hi <;> exact ⟨fun _ => rfl, rfl⟩

/-- The bits an integer field's decode takes are those of the field it gives (spec/30_encoding.md R82, R83, R88). -/
theorem field_of_decode {c : Ctx} {bits : List Bool} {i : Instr} {k : Nat} (hc : ReadsField c)
    (h : decode c bits = .ok (i, k)) : k ≤ bits.length ∧ i.field = some (c, k, natOfBits (bits.take k)) := by
  obtain ⟨hcmd, hhdr, hsym⟩ := hc
  cases c with
  | command => exact absurd rfl hcmd
  | header => exact absurd rfl hhdr
  | symbol => exact absurd rfl (hsym _ _ _ _)
  | repeatExtra r =>
    simp only [decode] at h
    split_ifs at h with h16 h17 h18
    · subst h16; exact field_of_decodeField (fun _ => rfl) h
    · subst h17; exact field_of_decodeField (fun _ => rfl) h
    · subst h18; exact field_of_decodeField (fun _ => rfl) h
  | lengthExtra m =>
    simp only [decode] at h
    split at h
    · next hr hi => exact field_of_decodeField (field_lengthInstrs hr hi) h
    · cases h
  | distExtra d =>
    simp only [decode] at h
    split at h
    · next hr hi => exact field_of_decodeField (field_distanceInstrs hr hi).1 h
    · cases h
  | copy d =>
    simp only [decode] at h
    split at h
    · next hi =>
      cases h
      obtain ⟨hlt, -⟩ := List.getElem?_eq_some_iff.1 hi
      rw [length_distanceInstrs] at hlt
      obtain ⟨x, base, hr⟩ := exists_distanceRow (d := d) (by omega)
      exact ⟨Nat.zero_le _, (field_distanceInstrs hr hi).2⟩
    · cases h
  | clBuild => cases h; exact ⟨Nat.zero_le _, rfl⟩
  | storedLen | storedNlen | storedByte | hlit | hdist | hclen | clLen | readByte | trailerByte =>
    simp only [decode] at h
    exact field_of_decodeField (fun _ => rfl) h

/-! ## Symbols in a stream -/

theorem fits_symbol_iff {a : Alphabet} {t : Table} (x : BitVec 15) (m : BitVec 4) {i : Instr} :
    i.fits (.symbol a t x m) = true ↔ ∃ sym e, i.symbol = some (a, sym) ∧ t.codeOf sym = some e := by
  simp only [Instr.fits]
  rcases i.symbol with _ | ⟨a', sym⟩
  · simp
  · simp [Option.isSome_iff_exists]

theorem encode_symbol {a a' : Alphabet} {t : Table} (x : BitVec 15) (m : BitVec 4) {i : Instr} {sym : Nat}
    {e : CodeEntry} (hi : i.symbol = some (a', sym)) (he : t.codeOf sym = some e) :
    encode (.symbol a t x m) i = codeBits e.len e.code := by
  simp only [encode, hi, he]

/-! ## Decoding what was encoded -/

theorem decode_encode_command {i : Instr} (rest : List Bool) (h : i.fits .command = true) :
    decode .command (encode .command i ++ rest) = .ok (i, (encode .command i).length) := by
  obtain ⟨hcmd, hwf⟩ := Bool.and_eq_true_iff.1 h
  obtain ⟨w, hw⟩ := Option.isSome_iff_exists.1 hcmd
  have henc : encode .command i = bitsOf 32 w.toNat := by simp only [encode, hw]
  rw [henc, length_bitsOf, decode, decodeField_bitsOf _ w.isLt, BitVec.ofNat_toNat, BitVec.setWidth_eq,
    decodeCommand_of_commandWord hw hwf]

theorem decode_encode_header {i : Instr} (rest : List Bool) (h : i.fits .header = true) :
    decode .header (encode .header i ++ rest) = .ok (i, (encode .header i).length) := by
  obtain ⟨⟨f, k⟩, hf⟩ := Option.isSome_iff_exists.1 h
  have henc : encode .header i = f :: bitsOf 2 k := by simp only [encode, hf]
  have htake : (f :: bitsOf 2 k ++ rest).take 3 = f :: bitsOf 2 k := List.take_left' (by simp)
  rw [henc, decode, decodeField, if_neg (by simp), htake, decodeHeader_of_headerFields hf]
  simp

theorem decode_encode_symbol {a : Alphabet} {lens : List Nat} (hle : ∀ l ∈ lens, l ≤ 15)
    (hos : tableStatus lens ≠ .oversub) {i : Instr} (rest : List Bool)
    (h : i.fits (.symbol a (buildTable lens) 0 0) = true) :
    decode (.symbol a (buildTable lens) 0 0) (encode (.symbol a (buildTable lens) 0 0) i ++ rest) =
      .ok (i, (encode (.symbol a (buildTable lens) 0 0) i).length) := by
  obtain ⟨sym, e, hi, ho⟩ := (fits_symbol_iff 0 0).1 h
  have ht := isPrefixCode_buildTable hle hos
  obtain ⟨he, rfl⟩ := (codeOf_eq_some_iff ht).1 ho
  have hne : codeBits e.len e.code ≠ [] := List.ne_nil_of_length_pos (by simpa using ht.len_pos e he)
  have hcode := decodeCode_of_codeBits ht a he rest hne (h := 0) (n := 0) Nat.one_pos rfl
  rw [encode_symbol 0 0 hi ho]
  simp only [decode, decodeSymbol, if_neg (status_ne_empty_of_mem hle hos he), hcode, symbolInstr_of_symbol hi]

/-! ## Encoding what was decoded -/

/-- A command's word is the 32 bits taken. -/
theorem encode_decode_command {i : Instr} {k : Nat} {bits : List Bool} (h : decode .command bits = .ok (i, k)) :
    k ≤ bits.length ∧ i.fits .command = true ∧ encode .command i = bits.take k := by
  rw [decode] at h
  obtain ⟨hlen, rfl, rfl⟩ := decodeField_ok h
  have hw := commandWord_decodeCommand (BitVec.ofNat 32 (natOfBits (bits.take 32)))
  refine ⟨hlen, Bool.and_eq_true_iff.2 ⟨Option.isSome_iff_exists.2 ⟨_, hw⟩, wf_decodeCommand _⟩, ?_⟩
  simp only [encode, hw]
  rw [BitVec.toNat_ofNat, Nat.mod_eq_of_lt (natOfBits_take_lt hlen), bitsOf_natOfBits_take hlen]

theorem encode_decode_header {i : Instr} {k : Nat} {bits : List Bool} (h : decode .header bits = .ok (i, k)) :
    k ≤ bits.length ∧ i.fits .header = true ∧ encode .header i = bits.take k := by
  rw [decode] at h
  obtain ⟨hlen, rfl, rfl⟩ := decodeField_ok h
  have hf := headerFields_decodeHeader (natOfBits_take_lt hlen)
  refine ⟨hlen, Option.isSome_iff_exists.2 ⟨_, hf⟩, ?_⟩
  simp only [encode, hf]
  rw [← bitsOf_succ, bitsOf_natOfBits_take hlen]

theorem encode_decode_symbol {a : Alphabet} {lens : List Nat} (hle : ∀ l ∈ lens, l ≤ 15)
    (hos : tableStatus lens ≠ .oversub) {i : Instr} {k : Nat} {bits : List Bool}
    (h : decode (.symbol a (buildTable lens) 0 0) bits = .ok (i, k)) :
    k ≤ bits.length ∧ i.fits (.symbol a (buildTable lens) 0 0) = true ∧
      encode (.symbol a (buildTable lens) 0 0) i = bits.take k := by
  have ht := isPrefixCode_buildTable hle hos
  obtain ⟨hst, sym, hcode, hi⟩ := decodeSymbol_ok h
  obtain ⟨hk, e, he, hsym, hbits⟩ :=
    codeBits_of_decodeCode ht a (h := 0) (n := 0) (maxlen_pos_of_status_ne_empty hle hst) Nat.one_pos hcode
  have hs := symbol_of_symbolInstr hi
  have ho := (codeOf_eq_some_iff ht).2 ⟨he, hsym⟩
  exact ⟨hk, (fits_symbol_iff 0 0).2 ⟨sym, e, hs, ho⟩, (encode_symbol 0 0 hs ho).trans hbits⟩

theorem encode_decode_field {c : Ctx} (hc : ReadsField c) {i : Instr} {k : Nat} {bits : List Bool}
    (h : decode c bits = .ok (i, k)) : k ≤ bits.length ∧ i.fits c = true ∧ encode c i = bits.take k := by
  obtain ⟨hk, hf⟩ := field_of_decode hc h
  exact ⟨hk, (fits_iff_field hc).2 ⟨_, _, hf⟩, (encode_of_field hc hf).trans (bitsOf_natOfBits_take hk)⟩

end Sys2Proof.Machine

open Sys2Proof Sys2Proof.Machine

/-- Settles O20: by the kind of context. A symbol decodes since no code of a built table begins another
(`isPrefixCode_buildTable`, `decodeCode_of_codeBits`), a field since its integer has its width (`decode_of_field`). -/
theorem decodeOfEncode : Obligations.DecodeOfEncode := by
  intro c i rest hfit hstart
  rcases readsField_cases c with rfl | rfl | ⟨a, t, x, m, rfl⟩ | hc
  · exact decode_encode_command rest hfit
  · exact decode_encode_header rest hfit
  · obtain ⟨rfl, rfl, lens, hle, hos, rfl⟩ := hstart a t x m rfl
    exact decode_encode_symbol hle hos rest hfit
  · obtain ⟨n, v, hf⟩ := (fits_iff_field hc).1 hfit
    rw [encode_of_field hc hf, decode_of_field hf, length_bitsOf]

/-- Settles O21: by the kind of context. The bits a symbol's decode takes are a code of its table
(`codeBits_of_decodeCode`), the symbol's only one; a field's integer has exactly the bits taken. -/
theorem encodeOfDecode : Obligations.EncodeOfDecode := by
  intro c i k bits hd hstart
  rcases readsField_cases c with rfl | rfl | ⟨a, t, x, m, rfl⟩ | hc
  · exact encode_decode_command hd
  · exact encode_decode_header hd
  · obtain ⟨rfl, rfl, lens, hle, hos, rfl⟩ := hstart a t x m rfl
    exact encode_decode_symbol hle hos hd
  · exact encode_decode_field hc hd
end

section
/-! PROOF. Commands by word and by `STATE` (spec/30_encoding.md R91, spec/45_host.md R281 to R288), the words of
spec/30_encoding.md, the code-length table (spec/42_block.md R163, R164), and the ranges of lengths and distances. -/

namespace Sys2Proof.Machine

/-! ## Acceptance of commands -/

@[simp] theorem compareTrailer_reject (s : State) : s.compareTrailer.reject = s.reject := by
  rcases compareTrailer_cases s with ⟨-, h⟩ | ⟨-, -, h⟩ | ⟨-, -, h⟩ <;> rw [h] <;> rfl

@[simp] theorem endFlush_reject (s : State) : s.endFlush.reject = s.reject := by
  unfold State.endFlush
  split_ifs <;> rfl

theorem execResume_accepted {s : State} (h : s.state ≠ .busy) : ∃ t, execResume s = .next t ∧ t.reject = false := by
  unfold execResume
  split
  · exact ⟨_, rfl, rfl⟩
  · exact ⟨_, rfl, endFlush_reject _⟩
  · exact ⟨_, rfl, rfl⟩
  · exact ⟨_, rfl, rfl⟩
  · next hb => exact absurd hb h

theorem execResume_rejected {s : State} (h : s.state = .busy) : execResume s = .next s.rejected := by
  simp only [execResume, h]

/-- The words of the commands of R91 that `DONE` alone accepts: READ_BYTE, CHECK and CHECK_TRAILER. -/
theorem exec_doneCommand_accepted {v : Word} (hv : v = 3 ∨ v = 4 ∨ v = 5) {s : State} (hd : s.state = .done) :
    ∃ t, exec (decodeCommand v) s = .next t ∧ t.reject = false := by
  rcases hv with rfl | rfl | rfl
  · exact ⟨_, if_pos hd, rfl⟩
  · exact ⟨_, if_pos hd, compareTrailer_reject _⟩
  · exact ⟨_, if_pos hd, rfl⟩

theorem exec_doneCommand_rejected {v : Word} (hv : v = 3 ∨ v = 4 ∨ v = 5) {s : State} (hd : s.state ≠ .done) :
    exec (decodeCommand v) s = .next s.rejected := by
  rcases hv with rfl | rfl | rfl <;> exact if_neg hd

/-- A word is a command's or reserved (spec/30_encoding.md R91). -/
theorem commandWord_cases (v : Word) : v = 1 ∨ v = 2 ∨ (v = 3 ∨ v = 4 ∨ v = 5) ∨ (v = 0 ∨ 6 ≤ v.toNat) := by
  bv_omega

/-! ## A field read in a phase of its own -/

/-- A phase that reads an integer field, all of its bits held, runs the meaning of the instruction that those bits of
`BITBUF` make (spec/40_bitreader.md R100, R101). -/
theorem coreStep_of_field {s : State} {p : Phase} {c : Ctx} {mk : Nat → Instr} (hr : s.Ready p c.width)
    (hp : p ≠ .hBtype ∧ p ≠ .cRdbyte) (hc : State.ctx s = some c) (hsym : ∀ a t x m, c ≠ .symbol a t x m)
    (hd : ∀ bits, decode c bits = decodeField c.width mk bits) :
    coreStep s = exec (mk (s.field c.width).toNat) (s.took c.width) := by
  obtain ⟨hb, rfl, hheld⟩ := hr
  have hprep := prepared_of_ne hp.2
  have hneed := needed_of_ctx hc
  have hbits : s.instrBits = s.heldBits.take c.width := by rw [instrBits_of_ne hp.1, hneed]
  have hlen : ¬ s.instrBits.length < c.width := by
    rw [hbits, List.length_take, length_heldBits]
    omega
  have hdec : decode c s.instrBits = .ok (mk (s.field c.width).toNat, c.width) := by
    rw [hd, decodeField, if_neg hlen, hbits, List.take_take, Nat.min_self, natOfBits_take_heldBits s hheld]
  have hctx : State.ctx ({ s with inWait := false } : State) = some c := hc
  have hcons : ({ s with inWait := false } : State).consumed = s.took c.width := by
    unfold State.consumed
    split
    · next he => exact absurd (Option.some.inj (hctx.symm.trans he)) (hsym _ _ _ _)
    · rw [needed_of_ctx hctx]
      rfl
  rw [coreStep_of_decode hb hc (by rw [hprep, hneed]; exact hheld) (by rw [hprep]; exact hdec), hprep, hcons]

/-! ## The code-length table -/

/-- A 3-bit field goes to the length of the next symbol of the order, and the last one to `D_CLBUILD`
(spec/42_block.md R163). -/
theorem exec_clLen {v : BitVec 3} {s : State} {sym : Nat} (h : clOrder[s.core.clidx.toNat]? = some sym) :
    exec (.dynhdr (.clLen v)) s =
      .next
        { s with
          core.clLens := s.core.clLens.setIfInBounds sym v
          core.clidx := s.core.clidx + 1
          core.phase := if s.core.clidx + 1 = s.core.hclen then .dClbuild else s.core.phase } := by
  show takeClLen v s = _
  simp only [takeClLen, h]

theorem clOrder_lt : ∀ sym ∈ clOrder, sym < 19 := by decide

theorem buildCodeLengthTable_error {s : State} {e : ErrCode} {d : ErrDetail}
    (h : buildDynamic .cl s.clLengths s = .error (e, d)) :
    buildCodeLengthTable s = raiseError e d .codeLength s := by
  simp only [buildCodeLengthTable, h]

theorem buildCodeLengthTable_ok {s : State} {t : Table} (h : buildDynamic .cl s.clLengths s = .ok t) :
    buildCodeLengthTable s =
      { s with
        core.tblCl := t, core.lens := Vector.replicate 316 0, core.lidx := 0, core.hcode := 0, core.hcnt := 0
        core.phase := .dLensym, draws := s.buildDraws } := by
  simp only [buildCodeLengthTable, h]

end Sys2Proof.Machine

open Sys2Proof Sys2Proof.Machine

/-- Settles O8: a word is a command's or reserved (`commandWord_cases`); OPEN is always accepted, RESUME outside BUSY, the
other three in DONE, and what is not accepted ends in `State.rejected`. -/
theorem commandWordsAndAcceptance : Obligations.CommandWordsAndAcceptance := by
  refine ⟨⟨rfl, rfl, rfl, rfl, rfl, fun w hw => decodeCommand_reserved hw,
    fun w => ⟨wf_decodeCommand w, commandWord_decodeCommand w⟩⟩, fun s v => rfl, fun s v hv => ?_, fun s v hv => ?_,
    fun s w => rfl⟩
  · rcases hv with rfl | ⟨rfl, hb⟩ | ⟨hv, hd⟩
    · exact ⟨_, rfl, rfl⟩
    · exact execResume_accepted hb
    · exact exec_doneCommand_accepted hv hd
  · rcases commandWord_cases v with rfl | rfl | hdone | hres
    · exact absurd (.inl rfl) hv
    · exact execResume_rejected (not_not.1 fun hb => hv (.inr (.inl ⟨rfl, hb⟩)))
    · exact exec_doneCommand_rejected hdone fun hd => hv (.inr (.inr ⟨hdone, hd⟩))
    · rw [decodeCommand_reserved hres]
      rfl

/-- Settles O22: the decoder run on each of the words. -/
theorem specWordsDecode : Obligations.SpecWordsDecode := by
  unfold Obligations.SpecWordsDecode
  decide +kernel

/-- Settles O31: the two phases read a field of 3 bits and one of none (`coreStep_of_field`); `exec_clLen` writes one cell
of `CL_LENS`, and the build takes all 19. -/
theorem codeLengthTable : Obligations.CodeLengthTable := by
  refine ⟨⟨rfl, fun s hr => ?_, fun v s sym hsym => ?_⟩, fun s hr => ?_, fun s => ⟨?_, fun i hi => ?_, ?_, ?_⟩⟩
  · have hfield : BitVec.ofNat 3 (s.field 3).toNat = s.field 3 := by rw [BitVec.ofNat_toNat, BitVec.setWidth_eq]
    rw [← hfield]
    exact coreStep_of_field (c := .clLen) (mk := fun v => .dynhdr (.clLen (BitVec.ofNat 3 v))) hr (by decide)
      (by simp [State.ctx, hr.phase]) nofun fun _ => rfl
  · have hlt := clOrder_lt sym (List.mem_of_getElem? hsym)
    refine ⟨_, exec_clLen hsym, ?_, fun i hi => ?_, fun he => if_pos he, fun he => if_neg he, rfl⟩
    · simp [hlt]
    · simp [hi.symm]
  · exact coreStep_of_field (c := .clBuild) (mk := fun _ => .dynhdr .build) hr (by decide)
      (by simp [State.ctx, hr.phase]) nofun fun _ => rfl
  · simp [State.clLengths]
  · simp [State.clLengths, hi]
  · intro e d h
    exact congrArg _ (buildCodeLengthTable_error h)
  · intro t h
    exact congrArg _ (buildCodeLengthTable_ok h)

/-- Settles O43: a row's base and extra field stay within 258 and 32768 (`lengthRow_bounds`, `distanceRow_bounds`). -/
theorem lengthsAndDistancesInRange : Obligations.LengthsAndDistancesInRange := by
  refine ⟨fun sym x base e hr he => ?_, fun sym x base e hr he => ?_⟩
  · obtain ⟨-, -, -, h3, hsum⟩ := lengthRow_bounds hr
    exact ⟨by omega, by omega, Nat.mod_eq_of_lt (by omega)⟩
  · obtain ⟨-, -, h1, hsum⟩ := distanceRow_bounds hr
    exact ⟨by omega, by omega, Nat.mod_eq_of_lt (by omega)⟩
end

section
/-! PROOF. The bit reader (spec/40_bitreader.md R100 to R106): the bits each phase requires, the four outcomes of a step
that lacks them, and the bits that `GetBits`, `AlignToByte` and a fetch leave to be read. -/

namespace Sys2Proof.Machine

/-! ## The bits required -/

/-- What a phase requires does not depend on how the state came to be in it. -/
theorem needed_of_phase {s : State} {p : Phase} (h : s.core.phase = p) :
    s.needed = ({ s with core.phase := p } : State).needed := by
  subst h
  rfl

/-- The extra bits of a repeat symbol, read off its register (spec/42_block.md R170). -/
theorem repeatWidth_toNat (r : BitVec 5) : repeatWidth r.toNat = if r = 16 then 2 else if r = 17 then 3 else 7 := by
  have h (n : BitVec 5) : r.toNat = n.toNat ↔ r = n := BitVec.toNat_inj
  simp only [← h]
  rfl

theorem width_lengthExtra {m x base : Nat} (h : lengthRow m = some (x, base)) : (Ctx.lengthExtra m).width = x := by
  rw [Ctx.width, h]
  rfl

theorem width_distExtra {d x base : Nat} (h : distanceRow d = some (x, base)) : (Ctx.distExtra d).width = x := by
  rw [Ctx.width, h]
  rfl

/-! ## Waiting for them -/

/-- What is done before the bits are asked for is to drop held bits, if anything. -/
theorem prepared_eq_dropBits (s : State) : ∃ n, s.prepared = s.dropBits n := by
  by_cases h : s.core.phase = .cRdbyte
  · exact ⟨_, prepared_of_rdbyte h⟩
  · exact ⟨0, (prepared_of_ne h).trans (dropBits_zero s).symm⟩

@[simp] theorem State.prepared_inq (s : State) : s.prepared.inq = s.inq := by
  obtain ⟨n, h⟩ := prepared_eq_dropBits s
  rw [h, State.dropBits_inq]

@[simp] theorem State.prepared_interm (s : State) : s.prepared.interm = s.interm := by
  obtain ⟨n, h⟩ := prepared_eq_dropBits s
  rw [h, State.dropBits_interm]

@[simp] theorem State.prepared_inBytesTotal (s : State) : s.prepared.core.inBytesTotal = s.core.inBytesTotal := by
  obtain ⟨n, h⟩ := prepared_eq_dropBits s
  rw [h, State.dropBits_core]

theorem needMoreBits_cons {s : State} {b : Byte} {rest : List Byte} (h : s.inq = b :: rest) :
    needMoreBits s = fetchByte b rest s := by
  simp only [needMoreBits, h]

theorem needMoreBits_eof {s : State} (h : s.inq = []) (hi : s.interm = .eof) :
    needMoreBits s = raiseError .truncatedInput .eof .none { s with inWait := false } := by
  simp only [needMoreBits, h, hi]

theorem needMoreBits_ioErr {s : State} (h : s.inq = []) (hi : s.interm = .ioErr) :
    needMoreBits s = raiseError .ioError .io .none { s with inWait := false } := by
  simp only [needMoreBits, h, hi]

theorem needMoreBits_hold {s : State} (h : s.inq = []) (hi : s.interm = .none) :
    needMoreBits s = { s with inWait := true } := by
  simp only [needMoreBits, h, hi]

/-! ## Alignment -/

theorem bitcnt_alignToByte (s : State) : s.alignToByte.core.bitcnt.toNat = 8 * (s.core.bitcnt.toNat / 8) := by
  rw [State.alignToByte_core, bitcnt_sub_toNat _ (Nat.mod_le _ _)]
  omega

theorem alignToByte_of_aligned {s : State} (h : s.core.bitcnt.toNat % 8 = 0) : s.alignToByte = s := by
  rw [State.alignToByte, h, dropBits_zero]

end Sys2Proof.Machine

open Sys2Proof Sys2Proof.Machine

/-- Settles O15: the bits required are the width of the phase's field (`needed_of_phase`), and a step that lacks them is
`needMoreBits` of the prepared state, which has the queue, the signal and the byte count of the state itself. -/
theorem needBitsFetchesOrHolds : Obligations.NeedBitsFetchesOrHolds := by
  refine ⟨fun s => ⟨needed_of_phase, needed_of_phase, ?_, ?_, ?_, needed_of_phase, needed_of_phase, fun h => ?_,
    needed_of_phase, needed_of_phase, needed_of_phase, fun x base h hr => ?_, fun x base h hr => ?_, ?_⟩,
    fun s hb hlt => ?_⟩
  · rintro (h | h) <;> exact needed_of_phase h
  · rintro (h | h | h) <;> exact needed_of_phase h
  · rintro (h | h) <;> exact needed_of_phase h
  · exact (needed_of_phase h).trans (repeatWidth_toNat s.core.rsym)
  · exact (needed_of_phase h).trans (width_lengthExtra hr)
  · exact (needed_of_phase h).trans (width_distExtra hr)
  · rintro (h | h | h | h) <;> exact needed_of_phase h
  · rw [coreStep_wait hb hlt, ← s.prepared_inq, ← s.prepared_interm, ← s.prepared_inBytesTotal]
    exact ⟨fun b rest hq => congrArg _ (needMoreBits_cons hq), fun hq hi => congrArg _ (needMoreBits_eof hq hi),
      fun hq hi => congrArg _ (needMoreBits_ioErr hq hi), fun hq hi => congrArg _ (needMoreBits_hold hq hi)⟩

/-- Settles O16: removing held bits is a shift (`heldBits_dropBits`), an alignment the removal of the rest of a byte, and
a fetched byte's bits go above the held ones (`pendingBits_fetchByte`). -/
theorem bitReaderOrder : Obligations.BitReaderOrder := by
  refine ⟨⟨fun s n hn => ?_, fun s => ?_⟩, fun s b rest hup hlt hq => pendingBits_fetchByte hup hlt hq⟩
  · exact ⟨natOfBits_take_heldBits s hn, heldBits_dropBits s hn, bitcnt_sub_toNat _ hn⟩
  · exact ⟨rfl, heldBits_dropBits s (Nat.mod_le _ _), bitcnt_alignToByte s, alignToByte_of_aligned⟩
end

section
/-! PROOF. Canonical codes (spec/41_huffman.md R123) and the reference two-level layout (R127): a lookup and a decode
both find the one code that begins the bits. -/

namespace Sys2Proof.Machine

/-! ## Bits as numbers -/

/-- Bit lists of one length that are the same number are equal. -/
theorem natOfBits_inj {bs cs : List Bool} (hlen : bs.length = cs.length) (h : natOfBits bs = natOfBits cs) :
    bs = cs := by
  rw [← bitsOf_natOfBits bs, ← bitsOf_natOfBits cs, hlen, h]

theorem natOfBits_mod_two_pow {bs : List Bool} {n : Nat} (h : n ≤ bs.length) :
    natOfBits bs % 2 ^ n = natOfBits (bs.take n) := by
  conv_rhs => rw [← bitsOf_natOfBits bs, take_bitsOf, Nat.min_eq_left h]
  exact (natOfBits_bitsOf n _).symm

theorem bitsOf_mod_two_pow (n v : Nat) : bitsOf n (v % 2 ^ n) = bitsOf n v := by
  refine List.map_congr_left fun i hi => ?_
  simp [Nat.testBit_mod_two_pow, List.mem_range.1 hi]

theorem drop_codeBits (m n c : Nat) : (codeBits n c).drop m = codeBits (n - m) (c % 2 ^ (n - m)) := by
  rw [codeBits, codeBits, List.drop_reverse, length_bitsOf, take_bitsOf, Nat.min_eq_left (Nat.sub_le n m),
    bitsOf_mod_two_pow]

/-- A table index of `w` bits meets a slot pattern of `n` bits where the pattern's code begins the bits
(spec/41_huffman.md R127). -/
theorem index_mod_eq_reverseBits_iff {n w c : Nat} {bits : List Bool} (hw : n ≤ w) (hn : n ≤ bits.length) :
    natOfBits (bits.take w) % 2 ^ n = reverseBits n c ↔ codeBits n c <+: bits := by
  have htake : (bits.take n).length = (codeBits n c).length := by simpa using hn
  rw [natOfBits_mod_two_pow (by simp [hw, hn]), List.take_take, Nat.min_eq_left hw, reverseBits,
    List.prefix_iff_eq_take, length_codeBits]
  exact ⟨fun h => (natOfBits_inj htake h).symm, fun h => congrArg natOfBits h.symm⟩

/-- A list begins another where its first part does, and its rest what comes after. -/
theorem isPrefix_iff_take_drop {l bs : List Bool} {r : Nat} (hl : r ≤ l.length) :
    l <+: bs ↔ l.take r = bs.take r ∧ l.drop r <+: bs.drop r := by
  constructor
  · rintro ⟨u, rfl⟩
    rw [List.take_append_of_le_length hl, List.drop_append_of_le_length hl]
    exact ⟨rfl, List.prefix_append _ _⟩
  · rintro ⟨h1, h2⟩
    rw [← List.take_append_drop r l, ← List.take_append_drop r bs, h1]
    exact (List.prefix_append_right_inj _).2 h2

theorem find?_eq_some_of_unique {α : Type} {l : List α} {p : α → Bool} {x : α} (hx : x ∈ l) (hp : p x = true)
    (h : ∀ y ∈ l, p y = true → y = x) : l.find? p = some x := by
  obtain ⟨y, hy⟩ := Option.isSome_iff_exists.1 (List.find?_isSome.2 ⟨x, hx, hp⟩)
  rw [hy, h y (List.mem_of_find?_eq_some hy) (List.find?_some hy)]

/-! ## The code that begins the bits -/

/-- The bits begin with the entry's code. -/
def CodeEntry.Begins (e : CodeEntry) (bits : List Bool) : Prop := codeBits e.len e.code <+: bits

section
variable {t : Table} (ht : t.IsPrefixCode) {bits : List Bool}
include ht

/-- One code at most begins the bits. -/
theorem eq_of_begins {e e' : CodeEntry} (he : e ∈ t.codes) (he' : e' ∈ t.codes) (h : e.Begins bits)
    (h' : e'.Begins bits) : e = e' := by
  rcases List.prefix_or_prefix_of_prefix h h' with hp | hp
  · exact ht.prefix_inj e he e' he' hp
  · exact (ht.prefix_inj e' he' e he hp).symm

/-- The decode finds the code that begins the bits (spec/41_huffman.md R131). -/
theorem decodeCode_of_begins (a : Alphabet) {e : CodeEntry} (he : e ∈ t.codes) (h : e.Begins bits) :
    decodeCode t a 0 0 bits = .ok (e.sym, e.len) := by
  obtain ⟨rest, rfl⟩ := h
  have hne : codeBits e.len e.code ≠ [] := List.ne_nil_of_length_pos (by simpa using ht.len_pos e he)
  simpa using decodeCode_of_codeBits ht a he rest hne (h := 0) (n := 0) Nat.one_pos rfl

end

/-- A decode that ends in a symbol has met a code of the table. -/
theorem exists_mem_codes_of_decodeCode {t : Table} {a : Alphabet} {h : BitVec 15} {n : BitVec 4} {bits : List Bool}
    {p : Nat × Nat} (hd : decodeCode t a h n bits = .ok p) : ∃ e, e ∈ t.codes := by
  induction bits generalizing h n p with
  | nil => cases hd
  | cons b bits ih =>
    simp only [decodeCode] at hd
    split at hd
    · next hl =>
      obtain ⟨e, he, -⟩ := lookup_eq_some hl
      exact ⟨e, he⟩
    · split_ifs at hd
      split at hd
      · next hd' => exact ih hd'
      · cases hd

/-- Only a code that begins the bits is decoded. -/
theorem begins_of_decodeCode {t : Table} (ht : t.IsPrefixCode) {a : Alphabet} {bits : List Bool} {sym k : Nat}
    (hd : decodeCode t a 0 0 bits = .ok (sym, k)) : ∃ e ∈ t.codes, e.Begins bits := by
  obtain ⟨c, hc⟩ := exists_mem_codes_of_decodeCode hd
  have hmax : 0 < t.maxlen := (ht.len_pos c hc).trans_le (ht.len_le c hc)
  obtain ⟨-, e, he, -, hbits⟩ := codeBits_of_decodeCode ht a (h := 0) (n := 0) hmax Nat.one_pos hd
  have hcode : codeBits e.len e.code = bits.take k := hbits
  exact ⟨e, he, bits.drop k, by rw [hcode, List.take_append_drop]⟩

/-! ## The layout -/

section
variable {t : Table} (ht : t.IsPrefixCode) {bits : List Bool} (hbits : 15 ≤ bits.length) {r : Nat} {e : CodeEntry}
include ht hbits

theorem len_le_of_mem_codes (he : e ∈ t.codes) : e.len ≤ bits.length :=
  ((ht.len_le e he).trans ht.maxlen_le).trans hbits

/-- The root index meets the pattern of a short code where the code begins the bits. -/
theorem rootMatch_iff (he : e ∈ t.codes) :
    (decide (e.len ≤ r) && natOfBits (bits.take r) % 2 ^ e.len == reverseBits e.len e.code) = true ↔
      e.len ≤ r ∧ e.Begins bits := by
  rw [Bool.and_eq_true, decide_eq_true_eq, beq_iff_eq]
  exact and_congr_right fun hr => index_mod_eq_reverseBits_iff hr (len_le_of_mem_codes ht hbits he)

/-- The codes behind a root index are the long ones whose first bits are the root's. -/
theorem mem_longCodes_iff : e ∈ longCodes t r (natOfBits (bits.take r)) ↔
    e ∈ t.codes ∧ r < e.len ∧ (codeBits e.len e.code).take r = bits.take r := by
  rw [longCodes, List.mem_filter, Bool.and_eq_true, decide_eq_true_eq, beq_iff_eq, reverseBits]
  refine and_congr_right fun he => and_congr_right fun hr => ?_
  rw [take_codeBits hr.le]
  have hlen : (codeBits r (e.code / 2 ^ (e.len - r))).length = (bits.take r).length := by
    simpa using hr.le.trans (len_le_of_mem_codes ht hbits he)
  exact ⟨natOfBits_inj hlen, congrArg natOfBits⟩

theorem mem_longCodes_of_begins (he : e ∈ t.codes) (hr : r < e.len) (h : e.Begins bits) :
    e ∈ longCodes t r (natOfBits (bits.take r)) :=
  (mem_longCodes_iff ht hbits).2 ⟨he, hr, ((isPrefix_iff_take_drop (by simpa using hr.le)).1 h).1⟩

/-- The subtable's index meets the pattern of the rest of a long code where the code begins the bits. -/
theorem subMatch_iff {k : Nat} (he : e ∈ longCodes t r (natOfBits (bits.take r))) (hk : e.len - r ≤ k) :
    (natOfBits ((bits.drop r).take k) % 2 ^ (e.len - r) ==
      reverseBits (e.len - r) (e.code % 2 ^ (e.len - r))) = true ↔ e.Begins bits := by
  obtain ⟨hmem, hr, htake⟩ := (mem_longCodes_iff ht hbits).1 he
  have hlen : e.len - r ≤ (bits.drop r).length := by
    rw [List.length_drop]
    exact Nat.sub_le_sub_right (len_le_of_mem_codes ht hbits hmem) r
  rw [beq_iff_eq, index_mod_eq_reverseBits_iff hk hlen, ← drop_codeBits]
  exact ((isPrefix_iff_take_drop (by simpa using hr.le)).trans (and_iff_right htake)).symm

/-- Where no short code begins the bits, the root slot is invalid or links to a subtable wide enough for every code
behind the index. -/
theorem rootSlot_of_not_short (h : ∀ e ∈ t.codes, e.len ≤ r → ¬ e.Begins bits) :
    (rootSlot t r (natOfBits (bits.take r)) = .invalid ∧ longCodes t r (natOfBits (bits.take r)) = []) ∨
    ∃ k, rootSlot t r (natOfBits (bits.take r)) = .link k ∧
      ∀ e ∈ longCodes t r (natOfBits (bits.take r)), e.len - r ≤ k := by
  have hroot := List.find?_eq_none.2 fun e he hm =>
    have ⟨hr, hb⟩ := (rootMatch_iff ht hbits he).1 hm
    h e he hr hb
  unfold rootSlot
  rw [hroot]
  cases hl : longCodes t r (natOfBits (bits.take r)) with
  | nil => exact .inl ⟨rfl, rfl⟩
  | cons c cs =>
    refine .inr ⟨_, rfl, fun e he => Nat.sub_le_sub_right ?_ r⟩
    rw [List.foldl_eq_foldr]
    exact List.le_max_of_le (List.mem_map_of_mem he) le_rfl

/-- The layout finds the code that begins the bits (spec/41_huffman.md R127). -/
theorem layoutLookup_of_begins (he : e ∈ t.codes) (h : e.Begins bits) :
    layoutLookup t r bits = some (e.sym, e.len) := by
  have huniq : ∀ e' ∈ t.codes, e'.Begins bits → e' = e := fun e' he' h' => eq_of_begins ht he' he h' h
  by_cases hr : e.len ≤ r
  · have hfind := find?_eq_some_of_unique he ((rootMatch_iff ht hbits he).2 ⟨hr, h⟩) fun e' he' hm =>
      huniq e' he' ((rootMatch_iff ht hbits he').1 hm).2
    simp only [layoutLookup, rootSlot, hfind]
  · have hlong := mem_longCodes_of_begins ht hbits he (Nat.not_le.1 hr) h
    have hshort : ∀ e' ∈ t.codes, e'.len ≤ r → ¬ e'.Begins bits := fun e' he' hr' h' => hr (huniq e' he' h' ▸ hr')
    rcases rootSlot_of_not_short ht hbits hshort with ⟨-, hnil⟩ | ⟨k, hk, hle⟩
    · rw [hnil] at hlong
      cases hlong
    · have hfind := find?_eq_some_of_unique hlong ((subMatch_iff ht hbits hlong (hle e hlong)).2 h) fun e' he' hm =>
        huniq e' ((mem_longCodes_iff ht hbits).1 he').1 ((subMatch_iff ht hbits he' (hle e' he')).1 hm)
      simp only [layoutLookup, hk, subSlot, hfind]

/-- The layout finds nothing where no code begins the bits. -/
theorem layoutLookup_of_not_begins (h : ∀ e ∈ t.codes, ¬ e.Begins bits) : layoutLookup t r bits = none := by
  rcases rootSlot_of_not_short (r := r) ht hbits fun e he _ => h e he with ⟨hinv, -⟩ | ⟨k, hk, hle⟩
  · simp only [layoutLookup, hinv]
  · have hfind := List.find?_eq_none.2 fun e he hm =>
      h e ((mem_longCodes_iff ht hbits).1 he).1 ((subMatch_iff ht hbits he (hle e he)).1 hm)
    simp only [layoutLookup, hk, subSlot, hfind]

end

end Sys2Proof.Machine

open Sys2Proof Sys2Proof.Machine

/-- Settles O26: where a code begins the bits, the layout and the decode both find it (`layoutLookup_of_begins`,
`decodeCode_of_begins`); where none does, neither finds one. -/
theorem layoutFindsTheDecodedSymbol : Obligations.LayoutFindsTheDecodedSymbol := by
  intro lens a r bits hle hos hbits
  have ht := isPrefixCode_buildTable hle hos
  by_cases h : ∃ e ∈ (buildTable lens).codes, e.Begins bits
  · obtain ⟨e, he, hb⟩ := h
    rw [layoutLookup_of_begins ht hbits he hb, decodeCode_of_begins ht a he hb]
  · rw [layoutLookup_of_not_begins ht hbits fun e he hb => h ⟨e, he, hb⟩]
    cases hd : decodeCode (buildTable lens) a 0 0 bits with
    | ok p => exact absurd (begins_of_decodeCode ht hd) h
    | error _ => rfl

/-- Settles O25: what `Build` assigns is `mem_codes_buildTable`, the bound on a code `code_bounds`, that no code begins
another `eq_of_codeBits_prefix`; the recurrence is the definition of `firstCode`. -/
theorem canonicalCodesAreAPrefixCode : Obligations.CanonicalCodesAreAPrefixCode := by
  intro lens hle hos
  have hmem := mem_codes_buildTable hle hos
  refine ⟨fun sym l hl h0 => ⟨⟨sym, l, firstCode lens l + (lens.take sym).count l⟩,
    (hmem _).2 ⟨hl, h0, rfl⟩, rfl⟩, fun e he => ?_, ⟨rfl, fun len hlen => ?_⟩,
    fun e e' he he' hp => eq_of_codeBits_prefix hle hos he he' hp⟩
  · obtain ⟨hl, h0, hcode⟩ := (hmem e).1 he
    exact ⟨hl, h0, (code_bounds hle hos he).2.2, hcode⟩
  · rw [firstCode_succ, codeEnd, if_neg (by omega), blCount]
end

section
/-! PROOF. One code bit of a symbol decode (spec/41_huffman.md R131 to R133). -/

namespace Sys2Proof.Machine

/-- The next held bit, as the lowest of `HCODE` (spec/41_huffman.md R131). -/
theorem pushBit_field_one (h : BitVec 15) (s : State) :
    pushBit h (s.core.bitbuf.getLsbD 0) = (h <<< 1) ||| (s.field 1).setWidth 15 := by
  rw [pushBit, State.field, BitVec.setWidth_one]
  cases s.core.bitbuf.getLsbD 0 <;> rfl

theorem lookup_eq_none_of_not_mem {t : Table} {len code : Nat}
    (h : ∀ e ∈ t.codes, ¬ (e.len = len ∧ e.code = code)) : t.lookup len code = none := by
  cases hl : t.lookup len code with
  | none => rfl
  | some sym =>
    obtain ⟨e, he, hlen, hcode, -⟩ := lookup_eq_some hl
    exact absurd ⟨hlen, hcode⟩ (h e he)

section
variable {s : State} {a : Alphabet} {t : Table} (hb : s.state = .busy)
  (hc : State.ctx s = some (.symbol a t s.core.hcode s.core.hcnt))
include hc

/-- A phase that reads a symbol reads no header and aligns nothing. -/
theorem phase_of_ctx_symbol : s.core.phase ≠ .hBtype ∧ s.core.phase ≠ .cRdbyte := by
  constructor <;> intro h <;> simp [State.ctx, h] at hc

include hb

/-- With an EMPTY table a decode raises before it reads a bit (spec/41_huffman.md R132). -/
theorem coreStep_emptyTable (hst : t.status = .empty) :
    coreStep s = .next (raiseError .badHuffmanTable .emptyTable a.errTable { s with inWait := false }) := by
  have hprep := prepared_of_ne (phase_of_ctx_symbol hc).2
  have hneed : s.needed = 0 := (needed_of_ctx hc).trans (if_pos hst)
  have hctx : State.ctx ({ s with inWait := false } : State) = some (.symbol a t s.core.hcode s.core.hcnt) := hc
  rw [coreStep_act hb (by rw [hprep, hneed]; exact Nat.zero_le _), hprep]
  simp only [coreAction, hctx, decode, decodeSymbol, if_pos hst]

/-- With a bit held, a decode from a table that is not EMPTY reads that bit. -/
theorem coreStep_codeBit (hst : t.status ≠ .empty) (hn : 1 ≤ s.core.bitcnt.toNat) :
    coreStep s = coreAction { s with inWait := false } ∧
      decode (.symbol a t s.core.hcode s.core.hcnt) ({ s with inWait := false } : State).instrBits =
        decodeSymbol a t s.core.hcode s.core.hcnt [s.core.bitbuf.getLsbD 0] := by
  obtain ⟨hhead, hrd⟩ := phase_of_ctx_symbol hc
  have hprep := prepared_of_ne hrd
  have hneed : s.needed = 1 := (needed_of_ctx hc).trans (if_neg hst)
  have hbits : ({ s with inWait := false } : State).instrBits = [s.core.bitbuf.getLsbD 0] := by
    rw [instrBits_of_ne (s := { s with inWait := false }) hhead]
    show s.heldBits.take s.needed = _
    rw [hneed, State.heldBits, take_bitsOf, Nat.min_eq_left hn]
    rfl
  refine ⟨?_, by rw [hbits]; rfl⟩
  rw [coreStep_act hb (by rw [hprep, hneed]; exact hn), hprep]

end

/-- `HCODE` and `HCNT` after the next held bit (spec/41_huffman.md R131). -/
theorem takeCodeBit_eq_took (s : State) : ({ s with inWait := false } : State).takeCodeBit =
    { s.took 1 with
      core.hcode := (s.core.hcode <<< 1) ||| (s.field 1).setWidth 15, core.hcnt := s.core.hcnt + 1 } := by
  rw [← pushBit_field_one]
  rfl

end Sys2Proof.Machine

open Sys2Proof Sys2Proof.Machine

/-- Settles O19: the phases' tables are the context's; an EMPTY table raises (`coreStep_emptyTable`); else the step
decodes the one bit read (`coreStep_codeBit`), by whether a symbol has the code and whether it has `maxlen` bits. -/
theorem decodeReadsOneCodeBit : Obligations.DecodeReadsOneCodeBit := by
  refine ⟨fun s => ⟨fun hp => ?_, fun hp => ?_, fun hp => ?_⟩, fun s a t hb hc hst => coreStep_emptyTable hb hc hst,
    fun s a t hb hn hc hst => ?_⟩
  · simp only [State.ctx, hp]
  · simp only [State.ctx, hp, State.litTable]
    cases s.core.curLit <;> rfl
  · simp only [State.ctx, hp, State.distTable]
    cases s.core.curDist <;> rfl
  · have hctx : State.ctx ({ s with inWait := false } : State) = some (.symbol a t s.core.hcode s.core.hcnt) := hc
    have hcons : ({ s with inWait := false } : State).consumed = ({ s with inWait := false } : State).takeCodeBit := by
      simp only [State.consumed, hctx]
    obtain ⟨hact, hdec⟩ := coreStep_codeBit hb hc hst hn
    rw [hact, ← takeCodeBit_eq_took, ← hcons, ← pushBit_field_one]
    refine ⟨fun e i he hl hlen hcode hi => ?_, fun hno => ⟨fun hmax => ?_, fun hmax => ?_⟩⟩
    · rw [hlen, hcode] at hl
      simp only [coreAction, hctx, hdec, decodeSymbol, if_neg hst, decodeCode, hl, hi]
    · have hl := lookup_eq_none_of_not_mem hno
      simp only [coreAction, hctx, hdec, decodeSymbol, if_neg hst, decodeCode, hl, if_pos hmax]
    · have hl := lookup_eq_none_of_not_mem hno
      simp only [coreAction, hctx, hdec, decodeSymbol, if_neg hst, decodeCode, hl, if_neg hmax]
end

section
/-! PROOF. The builder's status (spec/41_huffman.md R121, R122), the acceptance policy (R124, R128) and the fixed tables
(R129, R130). -/

namespace Sys2Proof.Machine

/-! ## The Kraft sum -/

/-- A code of a length begins `2 ^ d` of each length `d` longer. -/
theorem codeEnd_mul_le_codeEnd (lens : List Nat) (len d : Nat) :
    codeEnd lens len * 2 ^ d ≤ codeEnd lens (len + d) := by
  cases d with
  | zero => simp
  | succ d => exact (codeEnd_mul_le_firstCode lens len d).trans (Nat.le_add_right _ _)

/-- One length of the over-subscription test: what is left of the codes of a length is what its codes and their
continuations do not take (spec/41_huffman.md R121). -/
theorem kraftStatus_range'_succ (lens : List Nat) (len m : Nat) :
    kraftStatus lens (List.range' (len + 1) (m + 1)) (2 ^ len - codeEnd lens len : Int) =
      if 2 ^ (len + 1) < codeEnd lens (len + 1) then .oversub
      else kraftStatus lens (List.range' (len + 1 + 1) m) (2 ^ (len + 1) - codeEnd lens (len + 1) : Int) := by
  have hleft : (2 * (2 ^ len - codeEnd lens len) - blCount lens (len + 1) : Int)
      = 2 ^ (len + 1) - codeEnd lens (len + 1) := by
    rw [codeEnd_succ]
    push_cast
    ring
  simp only [List.range'_succ, kraftStatus, hleft]
  exact if_congr (by zify; omega) rfl rfl

/-- The over-subscription test, after the lengths up to `len` have passed it, finds whether the codes of the lengths up
to `len + m` are more, as many or fewer than there are (spec/41_huffman.md R121). -/
theorem kraftStatus_eq_of_codeEnd_le {lens : List Nat} {len : Nat} (m : Nat) (h : codeEnd lens len ≤ 2 ^ len) :
    kraftStatus lens (List.range' (len + 1) m) (2 ^ len - codeEnd lens len : Int) =
      if 2 ^ (len + m) < codeEnd lens (len + m) then .oversub
      else if codeEnd lens (len + m) = 2 ^ (len + m) then .complete
      else .incomplete := by
  induction m generalizing len with
  | zero =>
    rw [List.range'_zero, kraftStatus, Nat.add_zero, if_neg (Nat.not_lt.2 h)]
    exact if_congr (by zify; omega) rfl rfl
  | succ m ih =>
    rw [kraftStatus_range'_succ, show len + (m + 1) = len + 1 + m by omega]
    by_cases hover : 2 ^ (len + 1) < codeEnd lens (len + 1)
    · have hlonger : 2 ^ (len + 1 + m) < codeEnd lens (len + 1 + m) := by
        rw [Nat.pow_add]
        exact (Nat.mul_lt_mul_of_pos_right hover (Nat.two_pow_pos m)).trans_le (codeEnd_mul_le_codeEnd lens _ m)
      rw [if_pos hover, if_pos hlonger]
    · rw [if_neg hover, ih (Nat.not_lt.1 hover)]

/-- A symbol of a length up to `n` takes `2 ^ (n - l)` of the codes of length `n`. -/
theorem codeEnd_cons (l : Nat) (lens : List Nat) (n : Nat) :
    codeEnd (l :: lens) n = (if l ≠ 0 ∧ l ≤ n then 2 ^ (n - l) else 0) + codeEnd lens n := by
  induction n with
  | zero => simp [codeEnd, firstCode]
  | succ n ih =>
    rw [codeEnd_succ, codeEnd_succ, ih, blCount, blCount, List.count_cons]
    rcases Nat.lt_trichotomy l (n + 1) with hl | rfl | hl
    · rw [if_neg (show ¬ (l == n + 1) = true by simpa using hl.ne)]
      by_cases h0 : l = 0
      · simp [h0]
      · rw [if_pos ⟨h0, by omega⟩, if_pos ⟨h0, hl.le⟩, show n + 1 - l = n - l + 1 by omega, Nat.pow_succ]
        omega
    · simp
      omega
    · rw [if_neg (show ¬ (l == n + 1) = true by simpa using hl.ne'), if_neg (by omega), if_neg (by omega)]
      omega

theorem kraftSum_cons (l : Nat) (lens : List Nat) :
    kraftSum (l :: lens) = (if l ≠ 0 then 2 ^ (15 - l) else 0) + kraftSum lens := by
  by_cases h : l = 0 <;> simp [kraftSum, h, Config.maxBits]

/-- The Kraft sum counts the codes of the greatest length that the set uses up. -/
theorem kraftSum_eq_codeEnd {lens : List Nat} (hle : ∀ l ∈ lens, l ≤ 15) : kraftSum lens = codeEnd lens 15 := by
  induction lens with
  | nil => rfl
  | cons l lens ih =>
    obtain ⟨hl, hrest⟩ := List.forall_mem_cons.1 hle
    rw [kraftSum_cons, codeEnd_cons, ih hrest]
    simp [hl]

theorem kraftSum_eq_zero_iff (lens : List Nat) : kraftSum lens = 0 ↔ ∀ l ∈ lens, l = 0 := by
  induction lens with
  | nil => simp [kraftSum]
  | cons l lens ih => simp [kraftSum_cons, ih]

/-- The status, by the Kraft sum (spec/41_huffman.md R122). -/
theorem tableStatus_eq {lens : List Nat} (hle : ∀ l ∈ lens, l ≤ 15) :
    tableStatus lens =
      if kraftSum lens = 0 then .empty
      else if 2 ^ 15 < kraftSum lens then .oversub
      else if kraftSum lens = 2 ^ 15 then .complete
      else .incomplete := by
  by_cases h0 : ∀ l ∈ lens, l = 0
  · rw [(tableStatus_eq_empty_iff hle).2 h0, if_pos ((kraftSum_eq_zero_iff lens).2 h0)]
  · have hk := kraftStatus_eq_of_codeEnd_le (lens := lens) (len := 0) 15 (Nat.zero_le _)
    have hst : tableStatus lens = kraftStatus lens (List.range' (0 + 1) 15) (2 ^ 0 - codeEnd lens 0 : Int) :=
      if_neg fun h => h0 ((tableStatus_eq_empty_iff hle).1 (if_pos h))
    rw [if_neg (mt (kraftSum_eq_zero_iff lens).1 h0), hst, hk, kraftSum_eq_codeEnd hle]

/-! ## The acceptance policy -/

theorem buildDynamic_of_fault {a : Alphabet} {lens : List Nat} {s : State} {d : ErrDetail}
    (h : buildFault a s.config lens (tableStatus lens) = some d) :
    buildDynamic a lens s = .error (.badHuffmanTable, d) := by
  simp only [buildDynamic, h]

/-- An accepted set builds its table, or by a free draw runs out of memory (spec/41_huffman.md R128). -/
theorem buildDynamic_of_accepted {a : Alphabet} {lens : List Nat} {s : State}
    (h : buildFault a s.config lens (tableStatus lens) = none) :
    buildDynamic a lens s =
      if s.config.oomPossible = true ∧ Config.freeOom s.draws a.errTable = true then .error (.outOfMemory, .oom)
      else .ok (buildTable lens) := by
  simp only [buildDynamic, h, Bool.and_eq_true]

/-- The sets that are accepted: all but the over-subscribed and the incomplete, of which a single distance code of
length 1 is, under its parameter (spec/41_huffman.md R124). -/
theorem buildFault_eq_none {a : Alphabet} {p : Params} {lens : List Nat} {st : TableStatus}
    (h : st = .complete ∨ st = .empty ∨ (st = .incomplete ∧ a = .dist ∧ p.singleDistCodeOk = true ∧
      lens.filter (fun l => l != 0) = [1])) : buildFault a p lens st = none := by
  rcases h with rfl | rfl | ⟨rfl, hok⟩
  · rfl
  · rfl
  · exact if_pos hok

/-! ## The fixed tables -/

theorem codeOf_buildTable {lens : List Nat} (hle : ∀ l ∈ lens, l ≤ 15) (hos : tableStatus lens ≠ .oversub)
    {sym l c : Nat} (hl : lens[sym]? = some l) (h0 : l ≠ 0) (hc : c = firstCode lens l + (lens.take sym).count l) :
    (buildTable lens).codeOf sym = some { sym := sym, len := l, code := c } :=
  (codeOf_eq_some_iff (isPrefixCode_buildTable hle hos)).2 ⟨(mem_codes_buildTable hle hos _).2 ⟨hl, h0, hc⟩, rfl⟩

theorem tableStatus_fixedLitLens : tableStatus fixedLitLens = .complete := by decide +kernel

theorem fixedLit_status : fixedLit.status = .complete := by
  rw [fixedLit, buildTable, tableStatus_fixedLitLens]

theorem tableStatus_fixedDistLens : tableStatus (List.replicate 30 5) = .incomplete := by decide

theorem fixedDistLens_not_oversub : tableStatus (List.replicate 30 5) ≠ .oversub := by
  rw [tableStatus_fixedDistLens]
  decide

theorem fixedLitLens_le : ∀ l ∈ fixedLitLens, l ≤ 15 := by decide +kernel

/-- The first codes of `FIXED_LIT` (spec/41_huffman.md R129). -/
theorem firstCode_fixedLitLens :
    firstCode fixedLitLens 7 = 0 ∧ firstCode fixedLitLens 8 = 0x30 ∧ firstCode fixedLitLens 9 = 0x190 := by
  decide +kernel

/-- The length of each symbol of `FIXED_LIT` (spec/41_huffman.md R129). -/
theorem getElem?_fixedLitLens : ∀ s < 288,
    fixedLitLens[s]? = some (if s < 144 then 8 else if s < 256 then 9 else if s < 280 then 7 else 8) := by
  decide +kernel

theorem count_take_fixedLitLens (s l : Nat) : (fixedLitLens.take s).count l =
    (if 8 = l then min s 144 + min (s - 280) 8 else 0) + (if 9 = l then min (s - 144) 112 else 0)
      + (if 7 = l then min (s - 256) 24 else 0) := by
  simp only [fixedLitLens, List.take_append, List.take_replicate, List.count_append, List.count_replicate,
    List.length_append, List.length_replicate, beq_iff_eq]
  split_ifs <;> omega

/-- The codes of `FIXED_LIT` (spec/41_huffman.md R129). -/
theorem codeOf_fixedLit {s : Nat} (h : s < 288) : fixedLit.codeOf s = some (
    if s < 144 then { sym := s, len := 8, code := 0x30 + s }
    else if s < 256 then { sym := s, len := 9, code := 0x190 + (s - 144) }
    else if s < 280 then { sym := s, len := 7, code := s - 256 }
    else { sym := s, len := 8, code := 0xC0 + (s - 280) }) := by
  have hos : tableStatus fixedLitLens ≠ .oversub := by rw [tableStatus_fixedLitLens]; decide
  obtain ⟨h7, h8, h9⟩ := firstCode_fixedLitLens
  have hlen := getElem?_fixedLitLens s h
  split_ifs at hlen ⊢
  all_goals
    refine codeOf_buildTable fixedLitLens_le hos hlen (by decide) ?_
    simp [h7, h8, h9, count_take_fixedLitLens]
    omega

/-- `FIXED_DIST` has the codes 0 to 29, of 5 bits (spec/41_huffman.md R130). -/
theorem codeOf_fixedDist {d : Nat} (h : d < 30) : fixedDist.codeOf d = some { sym := d, len := 5, code := d } := by
  refine codeOf_buildTable (by simp) fixedDistLens_not_oversub (by rw [List.getElem?_replicate, if_pos h])
    (by decide) ?_
  have hfirst : firstCode (List.replicate 30 5) 5 = 0 := by decide
  rw [hfirst, List.take_replicate, List.count_replicate]
  simp
  omega

/-- No symbol has a pattern past the 30 codes (spec/41_huffman.md R130). -/
theorem lookup_fixedDist_eq_none {c : Nat} (h : 30 ≤ c) : fixedDist.lookup 5 c = none := by
  refine lookup_eq_none_of_not_mem fun e he ⟨hlen, hcode⟩ => ?_
  obtain ⟨-, hend, -⟩ := code_bounds (by simp) fixedDistLens_not_oversub he
  have h30 : codeEnd (List.replicate 30 5) 5 = 30 := by decide
  rw [hlen, h30] at hend
  omega

end Sys2Proof.Machine

open Sys2Proof Sys2Proof.Machine

/-- Settles O24: by `tableStatus_eq`, the codes of 15 bits used up being the Kraft sum (`kraftSum_eq_codeEnd`). -/
theorem statusIsKraftSum : Obligations.StatusIsKraftSum := by
  intro lens hle
  rw [tableStatus_eq hle, ← kraftSum_eq_zero_iff]
  split_ifs
  all_goals
    simp only [true_iff, false_iff]
    omega

/-- Settles O27: a set that `buildFault` rejects raises what it says; one it accepts (`buildFault_eq_none`) is built,
but for the draw of `buildDynamic_of_accepted`. -/
theorem acceptancePolicy : Obligations.AcceptancePolicy := by
  intro a lens s
  refine ⟨fun h => buildDynamic_of_fault (by rw [h]; rfl), fun h hno => buildDynamic_of_fault ?_, fun h => ?_⟩
  · rw [h]
    exact if_neg hno
  · have hacc := buildDynamic_of_accepted (buildFault_eq_none h)
    refine ⟨fun hp => ?_, fun hp => ?_⟩
    · rw [hacc, if_neg fun hoom => by simp [hp] at hoom]
    · rw [hacc]
      simp only [hp, true_and]

/-- Settles O23: the statuses are the builder's run on the lengths, the codes those `Build` assigns
(`codeOf_buildTable`), and a pattern past the last code of its length is no symbol's (`lookup_fixedDist_eq_none`). -/
theorem fixedTableCodes : Obligations.FixedTableCodes := by
  refine ⟨fixedLit_status, tableStatus_fixedDistLens, by decide +kernel, by decide, fun s h => ?_,
    fun s h1 h2 => ?_, fun s h1 h2 => ?_, fun s h1 h2 => ?_, fun d h => codeOf_fixedDist h,
    lookup_fixedDist_eq_none (by decide), lookup_fixedDist_eq_none (by decide)⟩
  · rw [codeOf_fixedLit (by omega), if_pos h]
  · rw [codeOf_fixedLit (by omega), if_neg (by omega), if_pos h2]
  · rw [codeOf_fixedLit (by omega), if_neg (by omega), if_neg (by omega), if_pos h2]
  · rw [codeOf_fixedLit h2, if_neg (by omega), if_neg (by omega), if_neg (by omega)]
end

section
/-! PROOF. Blocks (spec/42_block.md R150 to R173): headers, stored blocks, the counts and code lengths of a dynamic
header, and the end of the stream. -/

namespace Sys2Proof.Machine

/-! ## Actions with all their bits held -/

/-- `coreStep_of_field` for an instruction that takes the field itself. -/
theorem coreStep_of_bits {s : State} {p : Phase} {c : Ctx} {n : Nat} {mk : BitVec n → Instr} (hr : s.Ready p n)
    (hp : p ≠ .hBtype ∧ p ≠ .cRdbyte) (hc : State.ctx s = some c) (hsym : ∀ a t x m, c ≠ .symbol a t x m)
    (hw : c.width = n) (hd : ∀ bits, decode c bits = decodeField n (fun v => mk (BitVec.ofNat n v)) bits) :
    coreStep s = exec (mk (s.field n)) (s.took n) := by
  subst hw
  have hfield : BitVec.ofNat c.width (s.field c.width).toNat = s.field c.width := by
    rw [BitVec.ofNat_toNat, BitVec.setWidth_eq]
  rw [← hfield]
  exact coreStep_of_field hr hp hc hsym hd

/-- A phase that reads no element runs the engine's action (spec/42_block.md R150, R171, R173). -/
theorem coreStep_of_engine {s : State} {p : Phase} {n : Nat} (hr : s.Ready p n) (hp : p ≠ .cRdbyte)
    (hc : State.ctx s = none) (hn : s.needed = n) : coreStep s = .next (engineAction { s with inWait := false }) := by
  obtain ⟨hb, rfl, hheld⟩ := hr
  have hctx : State.ctx ({ s with inWait := false } : State) = none := hc
  rw [coreStep_act hb (by rw [prepared_of_ne hp, hn]; exact hheld), prepared_of_ne hp]
  simp only [coreAction, hctx]

/-! ## Block headers -/

/-- The type's two bits, after the flag that `H_BFINAL` has read, run the header they code (spec/42_block.md R151). -/
theorem coreStep_of_headerFields {s : State} {i : Instr} (hr : s.Ready .hBtype 2)
    (hi : i.headerFields = some (s.core.bfinal, (s.field 2).toNat)) : coreStep s = exec i (s.took 2) := by
  obtain ⟨hb, hp, hheld⟩ := hr
  have hprep : s.prepared = s := prepared_of_ne (by rw [hp]; decide)
  have hc : State.ctx s = some .header := by simp only [State.ctx, hp]
  have hbits : s.instrBits = s.core.bfinal :: bitsOf 2 (s.field 2).toNat := by
    simp only [State.instrBits, hp, State.heldBits, take_bitsOf, Nat.min_eq_left hheld, State.field,
      BitVec.toNat_setWidth, bitsOf_mod_two_pow]
  have hdec : decode .header s.instrBits = .ok (decodeHeader (natOfBits s.instrBits), 3) := by
    rw [hbits]
    rfl
  rw [hbits, decodeHeader_of_headerFields hi, ← hbits] at hdec
  have hcons : ({ s with inWait := false } : State).consumed = s.took 2 := by
    have hctx : State.ctx ({ s with inWait := false } : State) = some .header := hc
    simp only [State.consumed, hctx, needed_of_ctx hctx]
    rfl
  rw [coreStep_of_decode hb hc (by rw [hprep, needed_of_ctx hc]; exact hheld) (by rw [hprep]; exact hdec), hprep, hcons]

/-! ## Stored blocks -/

/-- The check of `NLEN` is that it and `LEN` have no bit in common and miss none (spec/42_block.md R157). -/
theorem eq_not_iff_toNat_add (v l : BitVec 16) : v = ~~~l ↔ v.toNat + l.toNat = 0xFFFF := by
  rw [← BitVec.toNat_inj, BitVec.toNat_not]
  exact eq_tsub_iff_add_eq_of_le (Nat.le_sub_one_of_lt l.isLt)

theorem countStored_of_ne {s : State} (h : s.core.srem ≠ 1) :
    s.countStored = { s with core.srem := s.core.srem - 1 } :=
  if_neg (sub_ne_zero.2 h)

theorem countStored_of_last {s : State} (h : s.core.srem = 1) :
    s.countStored = { s with core.srem := 0, core.phase := if s.core.bfinal then .fEnd else .hBfinal } := by
  have hz : s.core.srem - 1 = 0 := sub_eq_zero.2 h
  rw [State.countStored, hz, if_pos rfl]
  rfl

/-! ## Code lengths -/

/-- Lengths that fit in `LENS` are stored. -/
theorem storeLengths_stores {r : Nat} (v : BitVec 4) {s : State} (h : s.core.lidx.toNat + r ≤ 316) :
    ∃ t, storeLengths r v s = .next t ∧ s.StoresLengths r v t := by
  rcases storeLengths_cases r v s with ⟨-, ht⟩ | ⟨hgt, -⟩
  · exact ht
  · omega

/-- A repeat that stays within `HLIT + HDIST`, its exact end included, stores its lengths (spec/42_block.md R170). -/
theorem repeatLengths_stores {r : Nat} (v : BitVec 4) {s : State} (ht : s.lengthTotal ≤ 316)
    (h : s.core.lidx.toNat + r ≤ s.lengthTotal) : ∃ t, repeatLengths r v s = .next t ∧ s.StoresLengths r v t := by
  rcases repeatLengths_cases r v s with ⟨hgt, -⟩ | ⟨-, he⟩
  · omega
  · rw [he]
    exact storeLengths_stores v (h.trans ht)

theorem repeatLengths_overflow {r : Nat} (v : BitVec 4) {s : State} (h : s.lengthTotal < s.core.lidx.toNat + r) :
    repeatLengths r v s = .next (raiseError .badHuffmanTable .repeatOverflow .codeLength s) := if_pos h

theorem previousLength_eq {s : State} {v : BitVec 4}
    (h : s.core.lidx = 0 ∧ v = 0 ∨ s.core.lidx ≠ 0 ∧ s.core.lens[s.core.lidx.toNat - 1]? = some v) :
    s.previousLength = v := by
  unfold State.previousLength
  rcases h with ⟨h0, rfl⟩ | ⟨h0, hv⟩
  · rw [if_pos h0]
  · rw [if_neg h0, hv, Option.getD_some]

end Sys2Proof.Machine

open Sys2Proof Sys2Proof.Machine

/-- Settles O33: the register selects the field that `D_REPEAT` reads; the three meanings are `repeatLengths`, which
stores (`repeatLengths_stores`) or raises (`repeatLengths_overflow`). -/
theorem repeatedCodeLengths : Obligations.RepeatedCodeLengths := by
  have hctx : ∀ {s : State} {n : Nat} {r : BitVec 5}, s.Ready .dRepeat n → s.core.rsym = r →
      State.ctx s = some (.repeatExtra r.toNat) := by
    rintro s n r hr rfl
    simp only [State.ctx, hr.phase]
  refine ⟨fun s hr h => ?_, fun s hr h => ?_, fun s hr h => ?_, fun e s v ht hv hle => ?_,
    fun e s ht hle => repeatLengths_stores 0 ht hle, fun e s ht hle => repeatLengths_stores 0 ht hle,
    fun e s hgt => repeatLengths_overflow _ hgt, fun e s hgt => repeatLengths_overflow _ hgt,
    fun e s hgt => repeatLengths_overflow _ hgt⟩
  · exact coreStep_of_bits (mk := fun e => .clRepPrev (.extra e)) hr (by decide) (hctx hr h) nofun rfl fun _ => rfl
  · exact coreStep_of_bits (mk := fun e => .clRepZeroS (.extra e)) hr (by decide) (hctx hr h) nofun rfl fun _ => rfl
  · exact coreStep_of_bits (mk := fun e => .clRepZeroL (.extra e)) hr (by decide) (hctx hr h) nofun rfl fun _ => rfl
  · rw [← previousLength_eq hv]
    exact repeatLengths_stores _ ht hle

/-- Settles O28: `H_BFINAL` is the engine's `readBfinal`, `H_BTYPE` runs the header that the type's bits code
(`coreStep_of_headerFields`), and the four meanings write the registers named. -/
theorem blockHeaders : Obligations.BlockHeaders := by
  refine ⟨fun s hr => ?_, fun s hr => ⟨?_, ?_, ?_, ?_⟩, fun f s => ⟨rfl, rfl, rfl, rfl⟩⟩
  · rw [coreStep_of_engine hr (by decide) (by simp [State.ctx, hr.phase]) (by simp [State.needed, State.ctx, hr.phase])]
    simp only [engineAction, hr.phase]
    rfl
  all_goals
    intro hf
    exact coreStep_of_headerFields hr (by rw [hf]; rfl)

/-- Settles O29: the three phases read fields of 16, 16 and 8 bits (`coreStep_of_bits`); the check of the complement is
one of sums (`eq_not_iff_toNat_add`), and the last byte is the one that `SREM = 1` counts. -/
theorem storedBlock : Obligations.StoredBlock := by
  refine ⟨⟨fun s hr => ?_, fun s hr => ?_, fun v s => rfl, fun v s hne => ?_, fun v s he hz => ?_, fun v s he hz => ?_⟩,
    fun s hr => ?_, fun b s hw h1 => ?_, fun b s hw h1 => ?_⟩
  · exact coreStep_of_bits (c := .storedLen) (mk := fun v => .stored (.len v)) hr (by decide)
      (by simp [State.ctx, hr.phase]) nofun rfl fun _ => rfl
  · exact coreStep_of_bits (c := .storedNlen) (mk := fun v => .stored (.nlen v)) hr (by decide)
      (by simp [State.ctx, hr.phase]) nofun rfl fun _ => rfl
  · exact congrArg _ (if_pos (mt (eq_not_iff_toNat_add v _).1 hne))
  · have hv := (eq_not_iff_toNat_add v _).2 he
    show Host.Outcome.next (checkNlen v s) = _
    rw [checkNlen, if_neg (not_not.2 hv), if_pos hz, hz]
    rfl
  · have hv := (eq_not_iff_toNat_add v _).2 he
    exact congrArg _ ((if_neg (not_not.2 hv)).trans (if_neg hz))
  · exact coreStep_of_bits (c := .storedByte) (mk := fun v => .stored (.byte v)) hr (by decide)
      (by simp [State.ctx, hr.phase]) nofun rfl fun _ => rfl
  · show windowWrite b s.countStored = _
    rw [countStored_of_ne h1]
    exact windowWrite_next b hw
  · show windowWrite b s.countStored = _
    rw [countStored_of_last h1]
    exact windowWrite_next b hw

/-- Settles O30: the three phases read fields of 5, 5 and 4 bits (`coreStep_of_bits`); no count overflows its register. -/
theorem dynamicHeaderCounts : Obligations.DynamicHeaderCounts := by
  refine ⟨fun s hr => ?_, fun s hr => ?_, fun s hr => ?_, fun v s => ?_, fun v s => ?_, fun v s h => ?_,
    fun v s hl hd => ?_⟩
  · exact coreStep_of_bits (c := .hlit) (mk := fun v => .dynhdr (.hlit v)) hr (by decide)
      (by simp [State.ctx, hr.phase]) nofun rfl fun _ => rfl
  · exact coreStep_of_bits (c := .hdist) (mk := fun v => .dynhdr (.hdist v)) hr (by decide)
      (by simp [State.ctx, hr.phase]) nofun rfl fun _ => rfl
  · exact coreStep_of_bits (c := .hclen) (mk := fun v => .dynhdr (.hclen v)) hr (by decide)
      (by simp [State.ctx, hr.phase]) nofun rfl fun _ => rfl
  · rw [BitVec.ofNat_add, BitVec.ofNat_toNat]
    rfl
  · rw [BitVec.ofNat_add, BitVec.ofNat_toNat]
    rfl
  · exact congrArg _ (if_pos h)
  · rw [BitVec.ofNat_add, BitVec.ofNat_toNat]
    exact congrArg _ (if_neg (by omega))

/-- Settles O32: a length is stored where `LENS` has room for it (`storeLengths_stores`); a repeat symbol begins its
repeat, but for symbol 16 with nothing to repeat. -/
theorem codeLengthSymbols : Obligations.CodeLengthSymbols := by
  refine ⟨fun v s h => storeLengths_stores v h, fun s h0 hf => if_pos ⟨h0, hf⟩, fun s h => if_neg ?_, fun s => rfl,
    fun s => rfl⟩
  rintro ⟨h0, hf⟩
  rcases h with h | h
  · exact h h0
  · rw [hf] at h
    cases h

/-- Settles O35: `F_END` is the engine's `endStream`, by whether `W` is 0. -/
theorem endOfStream : Obligations.EndOfStream := by
  intro s hr
  rw [coreStep_of_engine hr (by decide) (by simp [State.ctx, hr.phase]) (by simp [State.needed, State.ctx, hr.phase])]
  simp only [engineAction, hr.phase]
  refine ⟨fun hw => congrArg _ (if_pos hw), fun hw => congrArg _ (if_neg ?_)⟩
  show ¬ 0 < s.core.w.toNat
  rw [hw]
  decide
end

section
/-! PROOF. The symbol tables of a dynamic block (spec/42_block.md R171), and which steps write a table register or a
selector (spec/10_state.md R38). -/

namespace Sys2Proof.Machine

/-! ## The build of the two tables -/

theorem getElem?_litLengths (s : State) (i : Nat) :
    s.litLengths[i]? = if i < s.core.hlit.toNat then (s.core.lens[i]?).map BitVec.toNat else none := by
  rw [State.litLengths, List.getElem?_map, List.getElem?_take, Vector.getElem?_toList]
  split_ifs <;> rfl

theorem getElem?_distLengths (s : State) (i : Nat) :
    s.distLengths[i]? =
      if i < s.core.hdist.toNat then (s.core.lens[s.core.hlit.toNat + i]?).map BitVec.toNat else none := by
  rw [State.distLengths, List.getElem?_map, List.getElem?_take, List.getElem?_drop, Vector.getElem?_toList]
  split_ifs <;> rfl

section
variable {s : State} {e : ErrCode} {d : ErrDetail} {lt dt : Table}

theorem buildSymbolTables_litError (h : buildDynamic .ll s.litLengths s = .error (e, d)) :
    buildSymbolTables s = raiseError e d .litLen s := by
  simp only [buildSymbolTables, h]

theorem buildSymbolTables_distError (hl : buildDynamic .ll s.litLengths s = .ok lt)
    (h : buildDynamic .dist s.distLengths s = .error (e, d)) : buildSymbolTables s = raiseError e d .dist s := by
  simp only [buildSymbolTables, hl, h]

theorem buildSymbolTables_ok (hl : buildDynamic .ll s.litLengths s = .ok lt)
    (hd : buildDynamic .dist s.distLengths s = .ok dt) :
    buildSymbolTables s =
      { s with
        core.tblLit := lt, core.tblDist := dt, core.curLit := .dyn, core.curDist := .dyn
        core.hcode := 0, core.hcnt := 0, core.phase := .lSym, draws := s.buildDraws } := by
  simp only [buildSymbolTables, hl, hd]

end

/-- The build of the tables writes nothing but them and the selectors, or raises. -/
theorem buildSymbolTables_cases (s : State) :
    (buildSymbolTables s).state = .error ∨
    ∃ lt dt, buildSymbolTables s =
      { s with
        core.tblLit := lt, core.tblDist := dt, core.curLit := .dyn, core.curDist := .dyn
        core.hcode := 0, core.hcnt := 0, core.phase := .lSym, draws := s.buildDraws } := by
  cases hl : buildDynamic .ll s.litLengths s with
  | error p => exact .inl (by rw [buildSymbolTables_litError hl]; rfl)
  | ok lt =>
    cases hd : buildDynamic .dist s.distLengths s with
    | error p => exact .inl (by rw [buildSymbolTables_distError hl hd]; rfl)
    | ok dt => exact .inr ⟨lt, dt, buildSymbolTables_ok hl hd⟩

/-! ## The format of what is decoded -/

/-- What a context's bits decode to is of the context's format (spec/30_encoding.md R80, R91). -/
theorem format_of_decode {c : Ctx} {bits : List Bool} {i : Instr} {k : Nat} (h : decode c bits = .ok (i, k)) :
    i.format = c.format := by
  rcases readsField_cases c with rfl | rfl | ⟨a, t, x, n, rfl⟩ | hc
  · simp only [decode] at h
    obtain ⟨-, rfl, -⟩ := decodeField_ok h
    exact format_decodeCommand _
  · obtain ⟨-, rfl, -⟩ := decodeField_ok h
    unfold decodeHeader
    split_ifs <;> rfl
  · obtain ⟨-, sym, -, hi⟩ := decodeSymbol_ok h
    exact (Laws.Format.of_symbol (symbol_of_symbolInstr hi) t x n).symm
  · obtain ⟨-, hf⟩ := field_of_decode hc h
    exact (Laws.Format.of_field hf).symm

theorem eq_header_of_format {c : Ctx} (h : c.format = .blkhdr) : c = .header := by
  cases c with
  | header => rfl
  | symbol a t x n => cases a <;> cases h
  | _ => cases h

/-- Only `D_CLBUILD` decodes to the build of the code-length table. -/
theorem eq_clBuild_of_decode {c : Ctx} {bits : List Bool} {k : Nat} (h : decode c bits = .ok (.dynhdr .build, k)) :
    c = .clBuild := by
  have hfmt : Format.dynhdr = c.format := format_of_decode h
  have hc : ReadsField c := by
    rcases readsField_cases c with rfl | rfl | ⟨a, t, x, n, rfl⟩ | hc
    · cases hfmt
    · cases hfmt
    · cases a <;> cases hfmt
    · exact hc
  obtain ⟨-, hf⟩ := field_of_decode hc h
  exact ((Prod.mk.inj (Option.some.inj hf)).1).symm

theorem phase_of_ctx_header {s : State} (h : State.ctx s = some .header) : s.core.phase = .hBtype := by
  cases hp : s.core.phase with
  | hBtype => rfl
  | _ => simp [State.ctx, hp] at h

theorem phase_of_ctx_clBuild {s : State} (h : State.ctx s = some .clBuild) : s.core.phase = .dClbuild := by
  cases hp : s.core.phase with
  | dClbuild => rfl
  | _ => simp [State.ctx, hp] at h

/-! ## What an instruction does to the tables -/

/-- The table registers and the selectors (spec/10_state.md R38). -/
structure TableRegs where
  cl : Table
  lit : Table
  dist : Table
  curLit : TableSel
  curDist : TableSel

/-- The registers of `s` that R38 is about. -/
def State.tables (s : State) : TableRegs :=
  { cl := s.core.tblCl, lit := s.core.tblLit, dist := s.core.tblDist, curLit := s.core.curLit
    curDist := s.core.curDist }

/-- Where the result goes on without a raise, it keeps the tables and the selectors. -/
def State.KeepsTables (s : State) (r : Result) : Prop := ∀ t, r = .next t → t.state ≠ .error → t.tables = s.tables

theorem keepsTables_next {s t : State} (h : t.tables = s.tables) : s.KeepsTables (.next t) := by
  rintro _ ⟨⟩ _
  exact h

theorem keepsTables_raise {s u : State} (e : ErrCode) (d : ErrDetail) (f : ErrTable) :
    s.KeepsTables (.next (raiseError e d f u)) := by
  rintro _ ⟨⟩ h
  exact absurd rfl h

theorem keepsTables_windowWrite (b : Byte) {s u : State} (h : u.tables = s.tables) :
    s.KeepsTables (windowWrite b u) := by
  rcases windowWrite_cases b u with ⟨-, he⟩ | ⟨-, he⟩ <;> rw [he]
  · refine keepsTables_next (Eq.trans ?_ h)
    simp [State.tables]
  · rintro _ ⟨⟩

theorem keepsTables_compareTrailer {s u : State} (h : u.tables = s.tables) :
    s.KeepsTables (.next u.compareTrailer) := by
  rcases compareTrailer_cases u with ⟨-, he⟩ | ⟨-, -, he⟩ | ⟨-, -, he⟩ <;> rw [he]
  · exact keepsTables_raise _ _ _
  · exact keepsTables_raise _ _ _
  · exact keepsTables_next h

/-- A command other than OPEN keeps the tables (spec/45_host.md R284 to R288). -/
theorem keepsTables_command {i : Instr} (hi : i.format = .cmd) (hne : i ≠ .openStream) (s : State) :
    s.KeepsTables (exec i s) := by
  cases i with
  | openStream => exact absurd rfl hne
  | resume =>
    simp only [exec, execResume]
    split
    case h_2 =>
      unfold State.endFlush
      split_ifs <;> exact keepsTables_next rfl
    all_goals exact keepsTables_next rfl
  | readByte p =>
    cases p with
    | command =>
      simp only [exec, execReadByte]
      split_ifs <;> exact keepsTables_next rfl
    | byte b => exact keepsTables_next rfl
  | check =>
    simp only [exec, execCheck]
    split_ifs
    · exact keepsTables_compareTrailer rfl
    · exact keepsTables_next rfl
  | checkTrailer p =>
    cases p with
    | command =>
      simp only [exec, execCheckTrailer]
      split_ifs <;> exact keepsTables_next rfl
    | byte b =>
      obtain ⟨cr, ln, hput⟩ := putTrailerByte_eq s b
      simp only [exec, execCheckTrailer, hput]
      split_ifs
      · exact keepsTables_compareTrailer rfl
      · exact keepsTables_next rfl
  | cmdReserved w => exact keepsTables_next rfl
  | _ => cases hi

theorem keepsTables_stored (x : StoredField) (s : State) : s.KeepsTables (execStored x s) := by
  cases x with
  | len v => exact keepsTables_next rfl
  | nlen v =>
    show s.KeepsTables (.next (checkNlen v s))
    unfold checkNlen
    split_ifs
    · exact keepsTables_raise _ _ _
    · exact keepsTables_next rfl
    · exact keepsTables_next rfl
  | byte b =>
    refine keepsTables_windowWrite b ?_
    unfold State.countStored
    split_ifs <;> rfl

/-- A field of a dynamic header keeps the tables: the build alone writes one. -/
theorem keepsTables_dynhdr {x : DynField} (hx : x ≠ .build) (s : State) : s.KeepsTables (execDynhdr x s) := by
  cases x with
  | hlit v | hdist v => exact keepsTables_next rfl
  | hclen v =>
    show s.KeepsTables (.next (takeHclen v s))
    unfold takeHclen
    split_ifs
    · exact keepsTables_raise _ _ _
    · exact keepsTables_next rfl
  | clLen v =>
    show s.KeepsTables (takeClLen v s)
    unfold takeClLen
    split
    · rintro _ ⟨⟩
    · exact keepsTables_next rfl
  | build => exact absurd rfl hx

theorem keepsTables_storeLengths (r : Nat) (v : BitVec 4) (s : State) : s.KeepsTables (storeLengths r v s) := by
  rcases storeLengths_cases r v s with ⟨-, t, he, hs⟩ | ⟨-, he⟩ <;> rw [he]
  · exact keepsTables_next (congrArg State.tables hs.frame :)
  · rintro _ ⟨⟩

theorem keepsTables_repeatLengths (r : Nat) (v : BitVec 4) (s : State) : s.KeepsTables (repeatLengths r v s) := by
  rcases repeatLengths_cases r v s with ⟨-, he⟩ | ⟨-, he⟩ <;> rw [he]
  · exact keepsTables_raise _ _ _
  · exact keepsTables_storeLengths r v s

theorem keepsTables_lengthElement {x : Nat} (sym : BitVec 9) (base : Nat) (p : SymPart x) (s : State) :
    s.KeepsTables (.next (lengthElement sym base p s)) := by
  cases p <;> exact keepsTables_next rfl

theorem keepsTables_distanceElement {x : Nat} (sym : BitVec 5) (base : Nat) (p : DistPart x) (s : State) :
    s.KeepsTables (distanceElement sym base p s) := by
  cases p with
  | code => exact keepsTables_next rfl
  | extra e =>
    show s.KeepsTables (.next (takeDistance (BitVec.ofNat 16 (base + e.toNat)) s))
    unfold takeDistance
    split_ifs
    · exact keepsTables_raise _ _ _
    · exact keepsTables_next rfl
  | copy =>
    refine keepsTables_windowWrite _ ?_
    unfold State.countMatch
    split_ifs <;> rfl

/-- Every instruction keeps the tables but OPEN, a block header and the build of the code-length table. -/
theorem keepsTables_exec {i : Instr} (hne : i ≠ .openStream) (hh : i.format ≠ .blkhdr) (hb : i ≠ .dynhdr .build)
    (s : State) : s.KeepsTables (exec i s) := by
  cases i with
  | openStream => exact absurd rfl hne
  | resume | readByte p | check | checkTrailer p | cmdReserved w => exact keepsTables_command rfl hne s
  | blkStored f | blkFixed f | blkDynamic f | blkReserved f => exact absurd rfl hh
  | stored x => exact keepsTables_stored x s
  | dynhdr x => exact keepsTables_dynhdr (fun hx => hb (congrArg _ hx)) s
  | clLen v => exact keepsTables_storeLengths 1 v s
  | clRepPrev p =>
    cases p with
    | code =>
      show s.KeepsTables (execClRepPrev .code s)
      simp only [execClRepPrev]
      split_ifs
      · exact keepsTables_raise _ _ _
      · exact keepsTables_next rfl
    | extra e => exact keepsTables_repeatLengths _ _ s
  | clRepZeroS p | clRepZeroL p =>
    cases p with
    | code => exact keepsTables_next rfl
    | extra e => exact keepsTables_repeatLengths _ _ s
  | lit c => exact keepsTables_windowWrite c rfl
  | eob => exact keepsTables_next rfl
  | llInvalid286 | llInvalid287 | distInvalid30 | distInvalid31 => exact keepsTables_raise _ _ _
  | len257 p | len258 p | len259 p | len260 p | len261 p | len262 p | len263 p | len264 p | len265 p | len266 p
  | len267 p | len268 p | len269 p | len270 p | len271 p | len272 p | len273 p | len274 p | len275 p | len276 p
  | len277 p | len278 p | len279 p | len280 p | len281 p | len282 p | len283 p | len284 p | len285 p =>
    exact keepsTables_lengthElement _ _ p s
  | dist0 p | dist1 p | dist2 p | dist3 p | dist4 p | dist5 p | dist6 p | dist7 p | dist8 p | dist9 p | dist10 p
  | dist11 p | dist12 p | dist13 p | dist14 p | dist15 p | dist16 p | dist17 p | dist18 p | dist19 p | dist20 p
  | dist21 p | dist22 p | dist23 p | dist24 p | dist25 p | dist26 p | dist27 p | dist28 p | dist29 p =>
    exact keepsTables_distanceElement _ _ p s

/-! ## What a step does to the tables -/

/-- What a step from `s` to `t` does to the tables and the selectors: nothing, or what its phase is there for
(spec/10_state.md R38). -/
inductive State.WritesTables (s t : State) : Prop
  | nothing (h : t.tables = s.tables)
  | selectors (l d : TableSel) (phase : s.core.phase = .hBtype)
      (h : t.tables = { s.tables with curLit := l, curDist := d })
  | codeLength (c : Table) (phase : s.core.phase = .dClbuild) (h : t.tables = { s.tables with cl := c })
  | symbols (l d : Table) (phase : s.core.phase = .dBuild) (h : t.tables = { s.tables with lit := l, dist := d })

/-- The tables and the phase of the first state are all that matters of it. -/
theorem State.WritesTables.of_eq {s u t : State} (h : u.WritesTables t) (htables : u.tables = s.tables)
    (hphase : u.core.phase = s.core.phase) : s.WritesTables t := by
  cases h with
  | nothing h => exact .nothing (h.trans htables)
  | selectors l d phase h => exact .selectors l d (hphase ▸ phase) (htables ▸ h)
  | codeLength c phase h => exact .codeLength c (hphase ▸ phase) (htables ▸ h)
  | symbols l d phase h => exact .symbols l d (hphase ▸ phase) (htables ▸ h)

theorem tables_prepared (s : State) : s.prepared.tables = s.tables := by
  unfold State.prepared
  split_ifs <;> rfl

theorem tables_consumed (s : State) : s.consumed.tables = s.tables := by
  unfold State.consumed
  split <;> rfl

/-- A block header selects the block's tables, or keeps the selectors. -/
theorem tables_header {i : Instr} {s t : State} (hi : i.format = .blkhdr) (h : exec i s = .next t)
    (ht : t.state ≠ .error) : ∃ l d, t.tables = { s.tables with curLit := l, curDist := d } := by
  cases i with
  | blkStored f | blkFixed f | blkDynamic f => cases h; exact ⟨_, _, rfl⟩
  | blkReserved f => cases h; exact absurd rfl ht
  | _ => cases hi

theorem tables_codeLengthBuild {s t : State} (h : exec (.dynhdr .build) s = .next t) (ht : t.state ≠ .error) :
    ∃ c, t.tables = { s.tables with cl := c } := by
  obtain rfl : buildCodeLengthTable s = t := Host.Outcome.next.inj h
  cases hb : buildDynamic .cl s.clLengths s with
  | error p =>
    rw [buildCodeLengthTable_error hb] at ht
    exact absurd rfl ht
  | ok c =>
    rw [buildCodeLengthTable_ok hb]
    exact ⟨c, rfl⟩

/-- In `D_BUILD` the selectors are `DYN` already, so that the build keeps them (notes/assumptions/30.md). -/
theorem writesTables_engineAction {s : State} (hu : s.Underway)
    (ht : (engineAction s).state ≠ .error) : s.WritesTables (engineAction s) := by
  cases hp : s.core.phase with
  | dBuild =>
    obtain ⟨hl, hd⟩ := hu.dynamic (by rw [hp]; rfl)
    simp only [engineAction, hp] at ht ⊢
    rcases buildSymbolTables_cases s with herr | ⟨lt, dt, he⟩
    · exact absurd herr ht
    · refine .symbols lt dt hp ?_
      rw [he, State.tables, State.tables, hl, hd]
  | fEnd =>
    simp only [engineAction, hp, endStream]
    split_ifs <;> exact .nothing rfl
  | _ =>
    simp only [engineAction, hp]
    exact .nothing rfl

theorem writesTables_coreAction {s t : State} (hu : s.Underway) (h : coreAction s = .next t)
    (ht : t.state ≠ .error) : s.WritesTables t := by
  rcases coreAction_cases s with
    ⟨-, he⟩ | ⟨c, hc, ⟨i, k, hd, he⟩ | ⟨n, -, he⟩ | ⟨f, -, he⟩ | ⟨f, -, he⟩ | ⟨-, he⟩⟩ <;> rw [he] at h
  · cases h
    exact writesTables_engineAction hu ht
  · have hcons := tables_consumed s
    by_cases hfmt : i.format = .blkhdr
    · obtain rfl := eq_header_of_format ((format_of_decode hd).symm.trans hfmt)
      obtain ⟨l, d, hl⟩ := tables_header hfmt h ht
      exact .selectors l d (phase_of_ctx_header hc) (hcons ▸ hl)
    · by_cases hb : i = .dynhdr .build
      · subst hb
        obtain rfl := eq_clBuild_of_decode hd
        obtain ⟨c, hl⟩ := tables_codeLengthBuild h ht
        exact .codeLength c (phase_of_ctx_clBuild hc) (hcons ▸ hl)
      · have hne := ne_openStream_of_decode (fun hcmd => ctx_ne_command s (hcmd ▸ hc)) hd
        exact .nothing ((keepsTables_exec hne hfmt hb _ t h ht).trans hcons)
  · cases h
    exact .nothing (tables_consumed s)
  · cases h
    exact absurd rfl ht
  · cases h
    exact absurd rfl ht
  · cases h

theorem keepsTables_needMoreBits (s : State) : s.KeepsTables (.next (needMoreBits s)) := by
  rcases needMoreBits_cases s with ⟨b, rest, -, he⟩ | ⟨-, -, he⟩ | ⟨-, -, he⟩ | ⟨-, -, he⟩ <;> rw [he]
  · exact keepsTables_next rfl
  · exact keepsTables_raise _ _ _
  · exact keepsTables_raise _ _ _
  · exact keepsTables_next rfl

/-- A core step writes the tables in their phases only. -/
theorem writesTables_coreStep {s t : State} (hi : s.Inv) (h : coreStep s = .next t) (ht : t.state ≠ .error) :
    s.WritesTables t := by
  rcases coreStep_cases s with ⟨-, he⟩ | ⟨-, -, he⟩ | ⟨hb, -, he⟩ <;> rw [he] at h
  · cases h
    exact .nothing rfl
  · exact .nothing ((keepsTables_needMoreBits s.prepared t h ht).trans (tables_prepared s))
  · exact (writesTables_coreAction (hi.underway hb).prepared h ht).of_eq (tables_prepared s) (phase_prepared s)

/-- A host step keeps the tables unless it writes OPEN. -/
theorem tables_hostStep {a : HostAction} {s t : State} (ha : a ≠ .write 0 .word 1) (h : hostStep a s = .next t)
    (ht : t.state ≠ .error) : t.tables = s.tables := by
  rcases hostStep_cases a s with ⟨v, rfl, he⟩ | he | ⟨cr, ln, q, tm, rp, dr, he⟩ <;> rw [he] at h
  · have hv : v ≠ 1 := fun h1 => ha (by rw [h1])
    exact keepsTables_command (format_decodeCommand v) (decodeCommand_ne_openStream hv) s t h ht
  · cases h
  · cases h
    rfl

/-- Every step but a reset writes the tables in their phases only. -/
theorem writesTables_step {s t : State} (hi : s.Inv) (hreset : s.resetTurn = false) (h : step s = .next t)
    (ht : t.state ≠ .error) : s.WritesTables t := by
  rcases step_cases s with ⟨-, he⟩ | ⟨rest, -, he⟩ | ⟨a, rest, ha, he⟩ | ⟨rest, ha, he⟩ <;> rw [he] at h
  · exact writesTables_coreStep hi h ht
  · have hi' : ({ s with agenda := rest } : State).Inv := hi.withPort ..
    exact (writesTables_coreStep hi' h ht).of_eq rfl rfl
  · have hopen : a ≠ .write 0 .word 1 := by
      rintro rfl
      rw [State.resetTurn, ha] at hreset
      cases hreset
    have htables := tables_hostStep hopen h ht
    exact .nothing htables
  · rw [State.resetTurn, ha] at hreset
    cases hreset

section
variable {s t : State} (h : s.WritesTables t)
include h

theorem State.WritesTables.selectors_eq (hp : s.core.phase ≠ .hBtype) :
    t.core.curLit = s.core.curLit ∧ t.core.curDist = s.core.curDist := by
  cases h with
  | selectors l d phase h => exact absurd phase hp
  | nothing h | codeLength c phase h | symbols l d phase h =>
    exact ⟨(congrArg TableRegs.curLit h :), (congrArg TableRegs.curDist h :)⟩

theorem State.WritesTables.tblCl_eq (hp : s.core.phase ≠ .dClbuild) : t.core.tblCl = s.core.tblCl := by
  cases h with
  | codeLength c phase h => exact absurd phase hp
  | nothing h | selectors l d phase h | symbols l d phase h => exact (congrArg TableRegs.cl h :)

theorem State.WritesTables.symbolTables_eq (hp : s.core.phase ≠ .dBuild) :
    t.core.tblLit = s.core.tblLit ∧ t.core.tblDist = s.core.tblDist := by
  cases h with
  | symbols l d phase h => exact absurd phase hp
  | nothing h | selectors l d phase h | codeLength c phase h =>
    exact ⟨(congrArg TableRegs.lit h :), (congrArg TableRegs.dist h :)⟩

end

end Sys2Proof.Machine

open Sys2Proof Sys2Proof.Machine

/-- Settles O34: `D_BUILD` is the engine's `buildSymbolTables`, by which of the two builds fails; what a step may do to
the tables in each phase is `writesTables_step`. -/
theorem symbolTablesBuilt : Obligations.SymbolTablesBuilt := by
  refine ⟨fun s hr => ?_, fun s t hi hreset h ht => ?_⟩
  · have hstep : coreStep s = .next (buildSymbolTables { s with inWait := false }) := by
      rw [coreStep_of_engine hr (by decide) (by simp [State.ctx, hr.phase])
        (by simp [State.needed, State.ctx, hr.phase])]
      simp only [engineAction, hr.phase]
    rw [hstep]
    exact ⟨fun i _ => getElem?_litLengths s i, getElem?_distLengths s,
      fun e d hl => congrArg _ (buildSymbolTables_litError hl),
      fun lt e d hl hd => congrArg _ (buildSymbolTables_distError hl hd),
      fun lt dt hl hd => congrArg _ (buildSymbolTables_ok hl hd)⟩
  · have hw := writesTables_step hi hreset h ht
    exact ⟨hw.selectors_eq, hw.tblCl_eq, hw.symbolTables_eq⟩
end

section
/-! PROOF. The symbols of a block and the copy of a match (spec/43_symbols.md R180 to R248): a symbol's rule from its
row and its instructions, the step that copies one byte, and the whole of a match. -/

namespace Sys2Proof.Machine

/-! ## Codes of the fixed tables -/

/-- The code a built table assigns to a symbol decodes to the symbol's instruction. -/
theorem decode_codeBits {a : Alphabet} {lens : List Nat} (hle : ∀ l ∈ lens, l ≤ 15) (hos : tableStatus lens ≠ .oversub)
    {i : Instr} {sym : Nat} {e : CodeEntry} (hi : i.symbol = some (a, sym))
    (he : (buildTable lens).codeOf sym = some e) :
    decode (.symbol a (buildTable lens) 0 0) (codeBits e.len e.code) = .ok (i, (codeBits e.len e.code).length) := by
  have h := decode_encode_symbol hle hos [] ((fits_symbol_iff 0 0).2 ⟨sym, e, hi, he⟩)
  rwa [encode_symbol 0 0 hi he, List.append_nil] at h

/-- The fixed code of a length symbol: 7 bits up to symbol 279, 8 bits from 280 (spec/41_huffman.md R129). -/
def fixedLengthCode (m : Nat) : List Bool :=
  if m < 280 then codeBits 7 (m - 256) else codeBits 8 (0xC0 + (m - 280))

theorem decode_fixedLengthCode {m : Nat} {i : Instr} (hi : i.symbol = some (.ll, m)) (h1 : 257 ≤ m) (h2 : m ≤ 285) :
    decode (.symbol .ll fixedLit 0 0) (fixedLengthCode m) = .ok (i, (fixedLengthCode m).length) := by
  have hos : tableStatus fixedLitLens ≠ .oversub := by rw [tableStatus_fixedLitLens]; decide
  have he := codeOf_fixedLit (s := m) (by omega)
  rw [if_neg (by omega), if_neg (by omega)] at he
  unfold fixedLengthCode
  split_ifs at he ⊢
  · exact decode_codeBits (e := { sym := m, len := 7, code := _ }) fixedLitLens_le hos hi he
  · exact decode_codeBits (e := { sym := m, len := 8, code := _ }) fixedLitLens_le hos hi he

theorem decode_fixedDistCode {d : Nat} {i : Instr} (hi : i.symbol = some (.dist, d)) (h : d ≤ 29) :
    decode (.symbol .dist fixedDist 0 0) (codeBits 5 d) = .ok (i, (codeBits 5 d).length) :=
  decode_codeBits (e := { sym := d, len := 5, code := d }) (by simp) fixedDistLens_not_oversub hi
    (codeOf_fixedDist (by omega))

/-! ## Length symbols -/

/-- The rule of a length symbol, from its row of spec/30_encoding.md R86 and its two instructions. -/
theorem lengthRule_of_row {x base : Nat} {sym : BitVec 9} {mk : SymPart x → Instr} {code : List Bool}
    (hrow : lengthRow sym.toNat = some (x, base))
    (hi : lengthInstrs[sym.toNat - 257]? = some (mk .code, fun v => mk (.extra (BitVec.ofNat x v))))
    (hcode : code = fixedLengthCode sym.toNat) : LengthRule sym base code mk := by
  obtain ⟨h1, h2, -⟩ := lengthRow_bounds hrow
  obtain ⟨hdec, hextra⟩ := exec_lengthInstrs hrow hi
  rw [BitVec.ofNat_toNat, BitVec.setWidth_eq] at hdec hextra
  refine ⟨?_, hdec, fun s hr hs => ?_, fun e s => ?_⟩
  · rw [hcode]
    exact decode_fixedLengthCode (symbol_lengthInstrs hrow hi) h1 h2
  · exact coreStep_of_bits (c := .lengthExtra sym.toNat) (mk := fun e => mk (.extra e)) hr (by decide)
      (by simp only [State.ctx, hr.phase, hs]) nofun (width_lengthExtra hrow) fun _ => by simp only [decode, hrow, hi]
  · have h := hextra e.toNat s
    rw [BitVec.ofNat_toNat, BitVec.setWidth_eq] at h
    exact h

/-! ## Distance symbols -/

/-- A distance within the history, or any where the parameter says so, begins the match (spec/43_symbols.md R215). -/
theorem takeDistance_of_near {d : BitVec 16} {s : State}
    (h : d.toNat ≤ s.core.haveCount.toNat ∨ s.config.distTooFar = .window) :
    takeDistance d s = { s with core.mdist := d, core.mrem := s.core.mlen, core.phase := .lCopy } := by
  refine if_neg fun ⟨hlt, hf⟩ => ?_
  rcases h with hle | hw
  · omega
  · rw [hf] at hw
    cases hw

theorem takeDistance_of_far {d : BitVec 16} {s : State} (h : s.core.haveCount.toNat < d.toNat)
    (hf : s.config.distTooFar = .fault) : takeDistance d s = raiseError .badHuffmanTable .distTooFar .dist s :=
  if_pos ⟨h, hf⟩

/-- The rule of a distance symbol, from its row of spec/30_encoding.md R87 and its three instructions. -/
theorem distanceRule_of_row {x base : Nat} {sym : BitVec 5} {mk : DistPart x → Instr} {code : List Bool}
    (hrow : distanceRow sym.toNat = some (x, base))
    (hi : distanceInstrs[sym.toNat]? = some (mk .code, fun v => mk (.extra (BitVec.ofNat x v)), mk .copy))
    (hcode : code = codeBits 5 sym.toNat) : DistanceRule sym base code mk := by
  obtain ⟨h29, -, -, hmax⟩ := distanceRow_bounds hrow
  obtain ⟨hdec, hextra, -⟩ := exec_distanceInstrs hrow hi
  rw [BitVec.ofNat_toNat, BitVec.setWidth_eq] at hdec
  have htake (e : BitVec x) (s : State) :
      exec (mk (.extra e)) s = .next (takeDistance (BitVec.ofNat 16 (base + e.toNat)) s) := by
    have h := hextra e.toNat s
    rw [BitVec.ofNat_toNat, BitVec.setWidth_eq] at h
    exact h
  have hexact (e : BitVec x) : (BitVec.ofNat 16 (base + e.toNat)).toNat = base + e.toNat :=
    Nat.mod_eq_of_lt (by have := e.isLt; omega)
  refine ⟨?_, hdec, fun s hr hs => ?_, fun e s hnear => ?_, fun e s hfar hf => ?_⟩
  · rw [hcode]
    exact decode_fixedDistCode (symbol_distanceInstrs hrow hi) h29
  · exact coreStep_of_bits (c := .distExtra sym.toNat) (mk := fun e => mk (.extra e)) hr (by decide)
      (by simp only [State.ctx, hr.phase, hs]) nofun (width_distExtra hrow) fun _ => by simp only [decode, hrow, hi]
  · rw [htake, takeDistance_of_near (by rwa [hexact])]
  · rw [htake, takeDistance_of_far (by rwa [hexact]) hf]

/-! ## One byte of a match -/

theorem countMatch_of_ne {s : State} (h : s.core.mrem ≠ 1) : s.countMatch = { s with core.mrem := s.core.mrem - 1 } :=
  if_neg (sub_ne_zero.2 h)

theorem countMatch_of_last {s : State} (h : s.core.mrem = 1) :
    s.countMatch = { s with core.mrem := 0, core.hcode := 0, core.hcnt := 0, core.phase := .lSym } := by
  have hz : s.core.mrem - 1 = 0 := sub_eq_zero.2 h
  rw [State.countMatch, hz, if_pos rfl]
  rfl

/-- Counting a byte of a match writes `MREM`, the code registers and the phase, and nothing else. -/
theorem countMatch_frame (s : State) : s.countMatch =
    { s with
      core.mrem := s.core.mrem - 1, core.hcode := s.countMatch.core.hcode, core.hcnt := s.countMatch.core.hcnt
      core.phase := s.countMatch.core.phase } := by
  by_cases h : s.core.mrem = 1
  · rw [countMatch_of_last h, h]
    rfl
  · rw [countMatch_of_ne h]

theorem countMatch_phase (s : State) :
    s.countMatch.core.phase = if s.core.mrem = 1 then .lSym else s.core.phase := by
  split_ifs with h
  · rw [countMatch_of_last h]
  · rw [countMatch_of_ne h]

/-- Where `W` is an index of the window, the byte of the source cell is written there (spec/43_symbols.md R247). -/
theorem copyByte_next {s : State} (h : s.core.w.toNat < Config.windowSize) :
    copyByte s =
      .next (State.afterWrite (s.cell s.sourceCell) { s.countMatch with draws := s.cellDraws s.sourceCell }) :=
  windowWrite_next _ (by rw [countMatch_frame]; exact h)

theorem copyByte_of_read {s : State} {b : Byte} (h : s.core.w.toNat < Config.windowSize)
    (hb : s.window.read s.sourceCell = some b) : copyByte s = .next (State.afterWrite b s.countMatch) := by
  obtain ⟨hcell, hdraws⟩ := cell_of_read hb
  rw [copyByte_next h, hcell, hdraws, countMatch_frame]

theorem copyByte_of_unread {s : State} (h : s.core.w.toNat < Config.windowSize)
    (hb : s.window.read s.sourceCell = none) :
    copyByte s =
      .next (State.afterWrite (Config.freeByte s.draws s.sourceCell) { s.countMatch with draws := s.draws.next }) := by
  rw [copyByte_next h, State.cell, State.cellDraws, hb]
  rfl

/-- The rule of a distance symbol's copy, from its three instructions (spec/43_symbols.md R247). -/
theorem copyRule_of_instrs {sym : BitVec 5} {code copy : Instr} {extra : Nat → Instr}
    (hi : distanceInstrs[sym.toNat]? = some (code, extra, copy)) : CopyRule sym copy := by
  have hlt := (List.getElem?_eq_some_iff.1 hi).1
  rw [length_distanceInstrs] at hlt
  obtain ⟨x, base, hrow⟩ := exists_distanceRow (Nat.le_of_lt_succ hlt)
  obtain ⟨-, -, hcopy⟩ := exec_distanceInstrs hrow hi
  refine ⟨fun s hr hs => ?_, fun s b hw hb => ?_, fun s hw hb => ?_⟩
  · exact coreStep_of_bits (c := .copy sym.toNat) (mk := fun _ => copy) hr (by decide)
      (by simp only [State.ctx, hr.phase, hs]) nofun rfl fun _ => by
        simp only [decode, hi]
        rfl
  · rw [hcopy]
    exact copyByte_of_read hw hb
  · rw [hcopy]
    exact copyByte_of_unread hw hb

/-- A core step of `L_COPY`, whichever distance symbol began the match. -/
theorem coreStep_copy {s : State} (hr : s.Ready .lCopy 0) (h : s.core.dsym.toNat ≤ 29) :
    coreStep s = copyByte (s.took 0) := by
  obtain ⟨x, base, hrow⟩ := exists_distanceRow h
  obtain ⟨code, extra, copy, hi, -⟩ := symbolInstr_distance hrow
  obtain ⟨-, -, hcopy⟩ := exec_distanceInstrs hrow hi
  rw [(copyRule_of_instrs hi).reads s hr rfl, hcopy]

/-! ## A whole match -/

/-- One more core step, after those already taken. -/
theorem coreRun_succ_of_next {k : Nat} {s t : State} (h : coreRun k s = .next t) : coreRun (k + 1) s = coreStep t := by
  induction k generalizing s with
  | zero =>
    cases h
    simp only [coreRun]
    cases coreStep t <;> rfl
  | succ k ih =>
    simp only [coreRun] at h
    rw [coreRun]
    cases hs : coreStep s <;> simp only [hs] at h ⊢
    · exact ih h
    · cases h
    · cases h

/-- The cell that byte `j` of the match repeats: `j mod MDIST` into the `MDIST` bytes before `W`. -/
def State.periodCell (s : State) (j : Nat) : Nat :=
  matchSource s.core.w.toNat (s.core.mdist.toNat - j % s.core.mdist.toNat)

/-- `t` is `s` with the first `k` bytes of its match copied. -/
structure State.Copied (s : State) (k : Nat) (t : State) : Prop where
  busy : t.state = .busy
  phase : t.core.phase = if k = s.core.mrem.toNat then .lSym else .lCopy
  w : t.core.w.toNat = s.core.w.toNat + k
  mrem : t.core.mrem.toNat = s.core.mrem.toNat - k
  mdist : t.core.mdist = s.core.mdist
  dsym : t.core.dsym = s.core.dsym
  copied : ∀ j, j < k → t.window.read (s.core.w.toNat + j) = s.window.read (s.periodCell j)
  kept : ∀ a, a < s.core.w.toNat ∨ s.core.w.toNat + k ≤ a → t.window.read a = s.window.read a

section
variable {s : State} (hd1 : 1 ≤ s.core.mdist.toNat) (hd2 : s.core.mdist.toNat ≤ Config.windowSize)
include hd1 hd2

/-- The next source cell holds what the period's cell held when the match began: the source is an old cell in the first
period, and a byte of the match copied one period ago after it. -/
theorem State.Copied.read_sourceCell {k : Nat} {t : State} (h : s.Copied k t)
    (hw : s.core.w.toNat + k < Config.windowSize) : t.window.read t.sourceCell = s.window.read (s.periodCell k) := by
  rw [State.sourceCell, h.w, h.mdist]
  simp only [Config.windowSize] at hd2 hw
  rcases Nat.lt_or_ge k s.core.mdist.toNat with hk | hk
  · have hcell : matchSource (s.core.w.toNat + k) s.core.mdist.toNat = s.periodCell k := by
      simp only [State.periodCell, matchSource, Config.windowSize, Nat.mod_eq_of_lt hk]
      omega
    rw [← hcell]
    refine h.kept _ ?_
    simp only [matchSource, Config.windowSize]
    omega
  · have hcell : matchSource (s.core.w.toNat + k) s.core.mdist.toNat =
        s.core.w.toNat + (k - s.core.mdist.toNat) := by
      simp only [matchSource, Config.windowSize]
      omega
    rw [hcell, h.copied _ (by omega), State.periodCell, State.periodCell, ← Nat.mod_eq_sub_mod hk]

/-- One more byte copied, from a period's cell that holds one (spec/43_symbols.md R247). -/
theorem State.Copied.succ {k : Nat} {t : State} (h : s.Copied k t) (hk : k < s.core.mrem.toNat)
    (hw : s.core.w.toNat + s.core.mrem.toNat < Config.windowSize) (h29 : s.core.dsym.toNat ≤ 29)
    (hread : (s.window.read (s.periodCell k)).isSome = true) : ∃ u, coreStep t = .next u ∧ s.Copied (k + 1) u := by
  obtain ⟨b, hb⟩ := Option.isSome_iff_exists.1 hread
  have hsrc : t.window.read t.sourceCell = some b :=
    (h.read_sourceCell hd1 hd2 (Nat.lt_trans (Nat.add_lt_add_left hk _) hw)).trans hb
  have htw : t.core.w.toNat + 1 < Config.windowSize := by rw [h.w]; omega
  have hready : t.Ready .lCopy 0 := ⟨h.busy, h.phase.trans (if_neg (Nat.ne_of_lt hk)), Nat.zero_le _⟩
  have hstep : coreStep t = .next ((t.took 0).countMatch.putByte b) := by
    rw [coreStep_copy hready (by rw [h.dsym]; exact h29),
      copyByte_of_read (s := t.took 0) (Nat.lt_of_succ_lt htw) hsrc]
    refine congrArg _ (if_neg ?_)
    rw [countMatch_frame]
    exact Nat.ne_of_lt htw
  have hcells (a : Nat) : ((t.took 0).countMatch.putByte b).window.read a =
      if a = s.core.w.toNat + k then some b else t.window.read a := by
    rw [State.putByte_window, Memory.read_write, countMatch_frame, ← h.w]
    rfl
  refine ⟨_, hstep, ?_, ?_, ?_, ?_, ?_, ?_, fun j hj => ?_, fun a ha => ?_⟩
  · rw [countMatch_frame]
    exact h.busy
  · have hlast : t.core.mrem = 1 ↔ k + 1 = s.core.mrem.toNat := by
      rw [← BitVec.toNat_inj, h.mrem]
      show s.core.mrem.toNat - k = 1 ↔ _
      omega
    rw [State.putByte_core, countMatch_phase]
    exact if_congr hlast rfl hready.phase
  · rw [countMatch_frame]
    show (t.core.w + 1).toNat = _
    rw [BitVec.toNat_add_of_lt (Nat.lt_trans htw (by decide)), h.w]
    rfl
  · have hm := h.mrem
    rw [countMatch_frame]
    show (t.core.mrem - 1).toNat = _
    bv_omega
  · rw [countMatch_frame]
    exact h.mdist
  · rw [countMatch_frame]
    exact h.dsym
  · rw [hcells]
    rcases Nat.lt_succ_iff_lt_or_eq.1 hj with hj | rfl
    · rw [if_neg (by omega), h.copied j hj]
    · rw [if_pos rfl, hb]
  · rw [hcells, if_neg (by omega), h.kept a (by omega)]

end

theorem copied_zero {s : State} (hb : s.state = .busy) (hp : s.core.phase = .lCopy) (h1 : 1 ≤ s.core.mrem.toNat) :
    s.Copied 0 s :=
  ⟨hb, hp.trans (if_neg (by omega)).symm, rfl, rfl, rfl, rfl, nofun, fun _ _ => rfl⟩

/-- `k` core steps of a match that fills no window copy its first `k` bytes. -/
theorem coreRun_copied {s : State} (h : s.Inv) (hb : s.state = .busy) (hp : s.core.phase = .lCopy)
    (hd : s.core.mdist.toNat ≤ s.core.haveCount.toNat)
    (hw : s.core.w.toNat + s.core.mrem.toNat < Config.windowSize) {k : Nat} (hk : k ≤ s.core.mrem.toNat) :
    ∃ t, coreRun k s = .next t ∧ s.Copied k t := by
  obtain ⟨-, -, hh, -, hr⟩ := h.okBusy hb
  simp only [State.RangesOk, hp] at hr
  obtain ⟨-, h1, -, h29, hd1, hd2, -⟩ := hr
  induction k with
  | zero => exact ⟨s, rfl, copied_zero hb hp h1⟩
  | succ k ih =>
    obtain ⟨t, hrun, ht⟩ := ih (Nat.le_of_succ_le hk)
    have hmod : k % s.core.mdist.toNat < s.core.mdist.toNat := Nat.mod_lt _ hd1
    obtain ⟨u, hstep, hu⟩ := ht.succ hd1 hd2 hk hw h29 (hh.behind (by rw [hp]; rfl) _ (by omega) (by omega))
    exact ⟨u, (coreRun_succ_of_next hrun).trans hstep, hu⟩

/-- The period's cell as spec/43_symbols.md R247 computes it, `(W + j mod MDIST - MDIST) mod 32768`. -/
theorem periodCell_eq {s : State} (hd1 : 1 ≤ s.core.mdist.toNat) (j : Nat) :
    s.periodCell j =
      (((s.core.w.toNat : Int) + ((j % s.core.mdist.toNat : Nat) : Int) - s.core.mdist.toNat) % 32768).toNat := by
  have hmod : j % s.core.mdist.toNat < s.core.mdist.toNat := Nat.mod_lt _ hd1
  simp only [State.periodCell, matchSource, Config.windowSize]
  omega

/-! ## A match that fills the window -/

/-- The byte at `W = 32767` fills the window, which is flushed whole (spec/44_window_crc.md R260, R261). -/
theorem coreStep_copy_full {s : State} (hr : s.Ready .lCopy 0) (hw : s.core.w = 32767)
    (h29 : s.core.dsym.toNat ≤ 29) : ∃ b d,
      coreStep s = .next (flush false (State.putByte b { (s.took 0).countMatch with draws := d })) := by
  have htw : (s.took 0).core.w.toNat = 32767 := congrArg BitVec.toNat hw
  have hlt : (s.took 0).core.w.toNat < Config.windowSize := by rw [htw]; decide
  have hfull (b : Byte) (d : Draw) : State.afterWrite b { (s.took 0).countMatch with draws := d } =
      flush false (State.putByte b { (s.took 0).countMatch with draws := d }) := by
    refine if_pos ?_
    rw [countMatch_frame]
    exact congrArg (· + 1) htw
  exact ⟨_, _, (coreStep_copy hr h29).trans ((copyByte_next hlt).trans (congrArg _ (hfull _ _)))⟩

/-- RESUME ends a full flush: `W` is 0 and the core is BUSY again (spec/44_window_crc.md R266). -/
theorem resume_fullFlush {s : State} (hs : s.state = .flush) (hf : s.finalFlush = false) :
    exec .resume s = .next { s with reject := false, core.w := 0, state := .busy } := by
  show execResume s = _
  have hend : s.accepted.endFlush = { s with reject := false, core.w := 0, state := .busy } := by
    rw [State.endFlush, State.accepted_finalFlush, hf]
    rfl
  simp only [execResume, hs, hend]

end Sys2Proof.Machine

open Sys2Proof Sys2Proof.Machine

/-- Settles O47: by induction on the steps (`coreRun_copied`), each byte's source being an old cell or a byte of the
match one period before it (`State.Copied.read_sourceCell`). -/
theorem overlappedMatchRepeatsPeriodically : Obligations.OverlappedMatchRepeatsPeriodically := by
  intro s h hb hp hd hw
  obtain ⟨-, -, -, -, hr⟩ := h.okBusy hb
  simp only [State.RangesOk, hp] at hr
  obtain ⟨-, -, -, -, hd1, -⟩ := hr
  obtain ⟨t, hrun, ht⟩ := coreRun_copied h hb hp hd hw le_rfl
  refine ⟨t, hrun, ht.busy, ht.phase.trans (if_pos rfl), ht.w, fun j hj => ?_, ht.kept⟩
  rw [ht.copied j hj, periodCell_eq hd1]

/-- Settles O48: the byte that fills the window is flushed with it (`coreStep_copy_full`), and RESUME puts `W` back to 0
and keeps the rest of the match (`resume_fullFlush`). -/
theorem matchSpansAFlush : Obligations.MatchSpansAFlush := by
  intro s hr hw h29 hd1 hd2
  obtain ⟨b, d, hstep⟩ := coreStep_copy_full hr hw h29
  have hcw : (s.took 0).countMatch.core.w + 1 = 32768 := by
    rw [countMatch_frame]
    exact congrArg (· + 1) hw
  have hdist : (s.took 0).countMatch.core.mdist = s.core.mdist := by
    rw [countMatch_frame]
    rfl
  refine ⟨_, _, hstep, resume_fullFlush rfl rfl, rfl, rfl, hcw, hcw, fun hne => ?_, fun hlast => ?_, hdist, rfl, rfl,
    rfl, rfl, rfl, hdist, ?_⟩
  · rw [countMatch_of_ne (s := s.took 0) hne]
    exact ⟨hr.phase, rfl⟩
  · rw [countMatch_of_last (s := s.took 0) hlast]
    exact ⟨rfl, rfl, rfl, rfl⟩
  · show matchSource 0 (s.took 0).countMatch.core.mdist.toNat = _
    rw [hdist]
    simp only [matchSource, Config.windowSize]
    omega

/-- Settles O36: a literal is one `WindowWrite`, and each of the other symbols' meanings is one update of the state. -/
theorem symbolsWithoutExtraBits : Obligations.SymbolsWithoutExtraBits :=
  ⟨fun c _ hw => windowWrite_next c hw, fun _ => rfl, fun _ => ⟨rfl, rfl⟩, fun _ => ⟨rfl, rfl⟩⟩

/-- Settles O37: each symbol's rule from its row, its instructions and its fixed code (`lengthRule_of_row`). -/
theorem lengthSymbols257To266 : Obligations.LengthSymbols257To266 := by
  unfold Obligations.LengthSymbols257To266
  and_intros <;> exact lengthRule_of_row rfl rfl (by decide)

/-- Settles O38: each symbol's rule from its row, its instructions and its fixed code (`lengthRule_of_row`). -/
theorem lengthSymbols267To276 : Obligations.LengthSymbols267To276 := by
  unfold Obligations.LengthSymbols267To276
  and_intros <;> exact lengthRule_of_row rfl rfl (by decide)

/-- Settles O39: each symbol's rule from its row, its instructions and its fixed code (`lengthRule_of_row`); the codes
are 8 bits long from symbol 280. -/
theorem lengthSymbols277To285 : Obligations.LengthSymbols277To285 := by
  unfold Obligations.LengthSymbols277To285
  and_intros <;> exact lengthRule_of_row rfl rfl (by decide)

/-- Settles O40: each symbol's rule from its row, its instructions and its fixed code (`distanceRule_of_row`). -/
theorem distanceSymbols0To9 : Obligations.DistanceSymbols0To9 := by
  unfold Obligations.DistanceSymbols0To9
  and_intros <;> exact distanceRule_of_row rfl rfl rfl

/-- Settles O41: each symbol's rule from its row, its instructions and its fixed code (`distanceRule_of_row`). -/
theorem distanceSymbols10To19 : Obligations.DistanceSymbols10To19 := by
  unfold Obligations.DistanceSymbols10To19
  and_intros <;> exact distanceRule_of_row rfl rfl rfl

/-- Settles O42: each symbol's rule from its row, its instructions and its fixed code (`distanceRule_of_row`). -/
theorem distanceSymbols20To29 : Obligations.DistanceSymbols20To29 := by
  unfold Obligations.DistanceSymbols20To29
  and_intros <;> exact distanceRule_of_row rfl rfl rfl

/-- Settles O44: `countMatch` by whether the byte was the last one, and each symbol's rule from its instructions
(`copyRule_of_instrs`). -/
theorem matchCopiesOneByte : Obligations.MatchCopiesOneByte := by
  refine ⟨fun s => ⟨countMatch_of_ne, countMatch_of_last⟩, ?_⟩
  and_intros <;> exact copyRule_of_instrs rfl
end

section
/-! PROOF. The window, the flush and the CRC (spec/44_window_crc.md R260 to R269): what one write and one flush do, the
CRC byte by byte, the account of the output that every step keeps, and the shape of `OUTLOG`. -/

namespace Sys2Proof.Machine

/-! ## One byte of the CRC -/

theorem crcBits_eq_iterate (k : Nat) (c : Word) : crcBits k c = crcBit^[k] c := by
  induction k generalizing c with
  | zero => rfl
  | succ k ih => exact ih (crcBit c)

/-! ## The account of the output -/

/-- The bytes delivered, and the two registers that account for them (spec/10_state.md R30, R31, R51). -/
structure Account where
  outlog : List FlushRecord
  crcState : Word
  count : Word

/-- The account that `s` keeps of its output. -/
def State.account (s : State) : Account := { outlog := s.outlog, crcState := s.crcState, count := s.count }

theorem outlog_of_account {s t : State} (h : t.account = s.account) : t.outlog = s.outlog := congrArg Account.outlog h

theorem State.Accounted.of_account {s t : State} (hs : s.Accounted) (h : t.account = s.account) : t.Accounted := by
  obtain ⟨hcrc, hcount⟩ := hs
  rw [State.Accounted, State.output, outlog_of_account h]
  exact ⟨(congrArg Account.crcState h).trans hcrc, (congrArg Account.count h).trans hcount⟩

/-- A flush adds its bytes to the log, the CRC and the count alike (spec/44_window_crc.md R262, R264, R265). -/
theorem State.Accounted.flush {s : State} (h : s.Accounted) (final : Bool) : (flush final s).Accounted := by
  obtain ⟨hcrc, hcount⟩ := h
  have hout : (Machine.flush final s).output = s.output ++ s.flushBytes := by simp [State.output]
  rw [State.Accounted, hout]
  constructor
  · rw [flush_crcState, hcrc, crcOver, crcOver, crcOver, List.foldl_append]
  · rw [flush_count, hcount, List.length_append, length_flushBytes, BitVec.ofNat_add, BitVec.ofNat_toNat]

theorem accounted_reset_with (cfg : Params) (m : Memory) (ag : List Turn) (rp : Option HostReply) (dr : Draw) :
    ({ State.reset with config := cfg, window := m, agenda := ag, reply := rp, draws := dr } : State).Accounted :=
  ⟨rfl, rfl⟩

/-! ## Operations that keep the account -/

theorem compareTrailer_account (s : State) : s.compareTrailer.account = s.account := by
  rcases compareTrailer_cases s with ⟨-, h⟩ | ⟨-, -, h⟩ | ⟨-, -, h⟩ <;> rw [h] <;> rfl

theorem countStored_account (s : State) : s.countStored.account = s.account := by
  unfold State.countStored
  split_ifs <;> rfl

theorem countMatch_account (s : State) (d : Draw) : ({ s.countMatch with draws := d } : State).account = s.account := by
  rw [countMatch_frame]
  rfl

theorem checkNlen_account (v : BitVec 16) (s : State) : (checkNlen v s).account = s.account := by
  unfold checkNlen
  split_ifs <;> rfl

theorem takeHclen_account (v : BitVec 4) (s : State) : (takeHclen v s).account = s.account := by
  unfold takeHclen
  split_ifs <;> rfl

theorem takeDistance_account (d : BitVec 16) (s : State) : (takeDistance d s).account = s.account := by
  unfold takeDistance
  split_ifs <;> rfl

theorem buildCodeLengthTable_account (s : State) : (buildCodeLengthTable s).account = s.account := by
  unfold buildCodeLengthTable
  split <;> rfl

theorem buildSymbolTables_account (s : State) : (buildSymbolTables s).account = s.account := by
  unfold buildSymbolTables
  split
  · rfl
  · split <;> rfl

theorem prepared_account (s : State) : s.prepared.account = s.account := by
  unfold State.prepared
  split_ifs <;> rfl

theorem consumed_account (s : State) : s.consumed.account = s.account := by
  unfold State.consumed
  split <;> rfl

theorem needMoreBits_account (s : State) : (needMoreBits s).account = s.account := by
  rcases needMoreBits_cases s with ⟨b, rest, -, h⟩ | ⟨-, -, h⟩ | ⟨-, -, h⟩ | ⟨-, -, h⟩ <;> rw [h] <;> rfl

/-! ## Commands -/

/-- Decoding has ended: by an error, or because the stream did (spec/44_window_crc.md R267). -/
def State.Ended (s : State) : Prop := s.state = .error ∨ s.core.phase.decoding = false

/-- `t` has the output of `s` to account for, and decodes only where `s` does. -/
structure State.Stays (s t : State) : Prop where
  account : t.account = s.account
  ended : s.Ended → t.Ended

theorem stays_compareTrailer {s u : State} (h : s.Stays u) : s.Stays u.compareTrailer := by
  refine ⟨(compareTrailer_account u).trans h.account, fun hs => ?_⟩
  rcases compareTrailer_cases u with ⟨-, he⟩ | ⟨-, -, he⟩ | ⟨-, -, he⟩ <;> rw [he]
  · exact .inl rfl
  · exact .inl rfl
  · exact h.ended hs

theorem stays_resume {s t : State} (h : execResume s = .next t) : s.Stays t := by
  unfold execResume at h
  split at h <;> cases h
  case h_1 hst => exact ⟨rfl, fun hs => .inr (hs.resolve_left (by rw [hst]; decide))⟩
  case h_2 hst =>
    unfold State.endFlush
    split_ifs <;> exact ⟨rfl, fun hs => .inr (hs.resolve_left (by rw [hst]; decide))⟩
  all_goals exact ⟨rfl, id⟩

/-- A command other than OPEN delivers nothing and starts no decoding (spec/45_host.md R284 to R288). -/
theorem stays_command {i : Instr} {s t : State} (hi : i.format = .cmd) (hne : i ≠ .openStream)
    (h : exec i s = .next t) : s.Stays t := by
  cases i with
  | openStream => exact absurd rfl hne
  | resume => exact stays_resume h
  | readByte p =>
    cases p with
    | command =>
      simp only [exec, execReadByte] at h
      split_ifs at h <;> cases h
      · exact ⟨rfl, fun _ => .inr rfl⟩
      · exact ⟨rfl, id⟩
    | byte b => cases h; exact ⟨rfl, fun _ => .inr rfl⟩
  | check =>
    simp only [exec, execCheck] at h
    split_ifs at h <;> cases h
    · exact stays_compareTrailer ⟨rfl, id⟩
    · exact ⟨rfl, id⟩
  | checkTrailer p =>
    cases p with
    | command =>
      simp only [exec, execCheckTrailer] at h
      split_ifs at h <;> cases h
      · exact ⟨rfl, fun _ => .inr rfl⟩
      · exact ⟨rfl, id⟩
    | byte b =>
      obtain ⟨cr, ln, hput⟩ := putTrailerByte_eq s b
      simp only [exec, execCheckTrailer, hput] at h
      split_ifs at h <;> cases h
      · exact stays_compareTrailer ⟨rfl, fun _ => .inr rfl⟩
      · exact ⟨rfl, id⟩
  | cmdReserved w => cases h; exact ⟨rfl, id⟩
  | _ => cases hi

/-- A host step is an OPEN, or delivers nothing and starts no decoding. -/
theorem stays_hostStep {a : HostAction} {s t : State} (h : hostStep a s = .next t) : t = s.openReset ∨ s.Stays t := by
  rcases hostStep_cases a s with ⟨v, rfl, he⟩ | he | ⟨cr, ln, q, tm, rp, dr, he⟩ <;> rw [he] at h
  · by_cases h1 : v = 1
    · subst h1
      cases h
      exact .inl rfl
    · exact .inr (stays_command (format_decodeCommand v) (decodeCommand_ne_openStream h1) h)
  · cases h
  · cases h
    exact .inr ⟨rfl, id⟩

/-! ## What an instruction delivers -/

/-- Where the result goes on, it keeps the account of `s`, or flushes a full window. -/
def State.Delivers (s : State) (r : Result) : Prop :=
  ∀ t, r = .next t → t.account = s.account ∨ ∃ u : State, u.account = s.account ∧ t = flush false u

theorem delivers_next {s t : State} (h : t.account = s.account) : s.Delivers (.next t) := by
  rintro _ ⟨⟩
  exact .inl h

theorem delivers_windowWrite (b : Byte) {s u : State} (h : u.account = s.account) : s.Delivers (windowWrite b u) := by
  rcases windowWrite_cases b u with ⟨-, he⟩ | ⟨-, he⟩ <;> rw [he]
  · rcases afterWrite_cases b u with ⟨-, he'⟩ | ⟨-, he'⟩ <;> rw [he'] <;> rintro _ ⟨⟩
    · exact .inl h
    · exact .inr ⟨u.putByte b, h, rfl⟩
  · rintro _ ⟨⟩

theorem delivers_stored (x : StoredField) (s : State) : s.Delivers (execStored x s) := by
  cases x with
  | len v => exact delivers_next rfl
  | nlen v => exact delivers_next (checkNlen_account v s)
  | byte b => exact delivers_windowWrite b (countStored_account s)

theorem delivers_takeClLen (v : BitVec 3) (s : State) : s.Delivers (takeClLen v s) := by
  unfold takeClLen
  split
  · rintro _ ⟨⟩
  · exact delivers_next rfl

theorem delivers_dynhdr (x : DynField) (s : State) : s.Delivers (execDynhdr x s) := by
  cases x with
  | hlit v | hdist v => exact delivers_next rfl
  | hclen v => exact delivers_next (takeHclen_account v s)
  | clLen v => exact delivers_takeClLen v s
  | build => exact delivers_next (buildCodeLengthTable_account s)

theorem delivers_storeLengths (r : Nat) (v : BitVec 4) (s : State) : s.Delivers (storeLengths r v s) := by
  rcases storeLengths_cases r v s with ⟨-, t, he, hs⟩ | ⟨-, he⟩ <;> rw [he]
  · exact delivers_next (congrArg State.account hs.frame :)
  · rintro _ ⟨⟩

theorem delivers_repeatLengths (r : Nat) (v : BitVec 4) (s : State) : s.Delivers (repeatLengths r v s) := by
  rcases repeatLengths_cases r v s with ⟨-, he⟩ | ⟨-, he⟩ <;> rw [he]
  · exact delivers_next rfl
  · exact delivers_storeLengths r v s

theorem delivers_clRepPrev (p : SymPart 2) (s : State) : s.Delivers (execClRepPrev p s) := by
  cases p with
  | code =>
    simp only [execClRepPrev]
    split_ifs <;> exact delivers_next rfl
  | extra e => exact delivers_repeatLengths _ _ s

theorem delivers_lengthElement {x : Nat} (sym : BitVec 9) (base : Nat) (p : SymPart x) (s : State) :
    s.Delivers (.next (lengthElement sym base p s)) := by
  cases p <;> exact delivers_next rfl

theorem delivers_distanceElement {x : Nat} (sym : BitVec 5) (base : Nat) (p : DistPart x) (s : State) :
    s.Delivers (distanceElement sym base p s) := by
  cases p with
  | code => exact delivers_next rfl
  | extra e => exact delivers_next (takeDistance_account _ s)
  | copy => exact delivers_windowWrite _ (countMatch_account s _)

/-- Every instruction but OPEN keeps the account or flushes a full window. -/
theorem delivers_exec {i : Instr} (hne : i ≠ .openStream) (s : State) : s.Delivers (exec i s) := by
  cases i with
  | openStream => exact absurd rfl hne
  | resume | readByte p | check | checkTrailer p | cmdReserved w =>
    exact fun t h => .inl (stays_command rfl hne h).account
  | blkStored f | blkFixed f | blkDynamic f | blkReserved f => exact delivers_next rfl
  | stored x => exact delivers_stored x s
  | dynhdr x => exact delivers_dynhdr x s
  | clLen v => exact delivers_storeLengths 1 v s
  | clRepPrev p => exact delivers_clRepPrev p s
  | clRepZeroS p | clRepZeroL p =>
    cases p with
    | code => exact delivers_next rfl
    | extra e => exact delivers_repeatLengths _ _ s
  | lit c => exact delivers_windowWrite c rfl
  | eob | llInvalid286 | llInvalid287 | distInvalid30 | distInvalid31 => exact delivers_next rfl
  | len257 p | len258 p | len259 p | len260 p | len261 p | len262 p | len263 p | len264 p | len265 p | len266 p
  | len267 p | len268 p | len269 p | len270 p | len271 p | len272 p | len273 p | len274 p | len275 p | len276 p
  | len277 p | len278 p | len279 p | len280 p | len281 p | len282 p | len283 p | len284 p | len285 p =>
    exact delivers_lengthElement _ _ p s
  | dist0 p | dist1 p | dist2 p | dist3 p | dist4 p | dist5 p | dist6 p | dist7 p | dist8 p | dist9 p | dist10 p
  | dist11 p | dist12 p | dist13 p | dist14 p | dist15 p | dist16 p | dist17 p | dist18 p | dist19 p | dist20 p
  | dist21 p | dist22 p | dist23 p | dist24 p | dist25 p | dist26 p | dist27 p | dist28 p | dist29 p =>
    exact delivers_distanceElement _ _ p s

/-! ## What a core step delivers -/

/-- What a core step from `s` to `t` delivers: nothing, a full window, or at the end of the stream what is left in the
window (spec/44_window_crc.md R261, R267). -/
inductive State.CoreDelivers (s t : State) : Prop
  | nothing (same : t.account = s.account)
  | fullWindow (u : State) (same : u.account = s.account) (flushed : t = flush false u)
  | remainder (u : State) (same : u.account = s.account) (flushed : t = flush true u) (phase : s.core.phase = .fEnd)
      (left : 0 < u.core.w.toNat)

/-- The account and the phase of the first state are all that matters of it. -/
theorem State.CoreDelivers.of_eq {s v t : State} (h : v.CoreDelivers t) (haccount : v.account = s.account)
    (hphase : v.core.phase = s.core.phase) : s.CoreDelivers t := by
  cases h with
  | nothing same => exact .nothing (same.trans haccount)
  | fullWindow u same flushed => exact .fullWindow u (same.trans haccount) flushed
  | remainder u same flushed phase left => exact .remainder u (same.trans haccount) flushed (hphase ▸ phase) left

theorem coreDelivers_endStream {s : State} (hp : s.core.phase = .fEnd) : s.CoreDelivers (endStream s) := by
  unfold endStream
  split_ifs with hw
  · exact .remainder (s.alignToByte.goto .xDone) rfl rfl hp hw
  · exact .nothing rfl

theorem coreDelivers_engineAction (s : State) : s.CoreDelivers (engineAction s) := by
  unfold engineAction
  split
  case h_2 => exact .nothing (buildSymbolTables_account s)
  case h_3 hp => exact coreDelivers_endStream hp
  all_goals exact .nothing rfl

theorem coreAction_delivers {s t : State} (h : coreAction s = .next t) : s.CoreDelivers t := by
  rcases coreAction_cases s with
    ⟨-, he⟩ | ⟨c, hc, ⟨i, k, hd, he⟩ | ⟨n, -, he⟩ | ⟨e, -, he⟩ | ⟨e, -, he⟩ | ⟨-, he⟩⟩ <;> rw [he] at h
  · cases h
    exact coreDelivers_engineAction s
  · have hne : c ≠ .command := fun hcmd => ctx_ne_command s (hcmd ▸ hc)
    rcases delivers_exec (ne_openStream_of_decode hne hd) s.consumed t h with same | ⟨u, same, flushed⟩
    · exact .nothing (same.trans (consumed_account s))
    · exact .fullWindow u (same.trans (consumed_account s)) flushed
  · cases h
    exact .nothing (consumed_account s)
  · cases h
    exact .nothing rfl
  · cases h
    exact .nothing rfl
  · cases h

theorem coreStep_delivers {s t : State} (h : coreStep s = .next t) : s.CoreDelivers t := by
  rcases coreStep_cases s with ⟨-, he⟩ | ⟨-, -, he⟩ | ⟨-, -, he⟩ <;> rw [he] at h
  · cases h
    exact .nothing rfl
  · cases h
    exact .nothing ((needMoreBits_account _).trans (prepared_account s))
  · exact (coreAction_delivers h).of_eq (prepared_account s) (phase_prepared s)

theorem State.Accounted.coreStep {s t : State} (hs : s.Accounted) (h : coreStep s = .next t) : t.Accounted := by
  cases coreStep_delivers h with
  | nothing same => exact hs.of_account same
  | fullWindow u same flushed => exact flushed ▸ (hs.of_account same).flush false
  | remainder u same flushed => exact flushed ▸ (hs.of_account same).flush true

/-! ## The end of decoding -/

/-- No action takes the core from outside decoding back into it. -/
theorem State.Acts.ended {s t : State} (h : s.Acts t) (hs : s.core.phase.decoding = false) : t.Ended := by
  have hkeeps : ∀ {u : State}, s.Moves u → u.core.phase.decoding = false := fun hm =>
    Bool.eq_false_iff.2 fun hd => Bool.eq_false_iff.1 hs (hm.decoding hd)
  cases h with
  | raises error => exact .inl error
  | moves hm => exact .inr (hkeeps hm)
  | writes b hm hd => exact absurd hd (Bool.eq_false_iff.1 (hkeeps hm))
  | finishes verified hm phase | flushes hm phase => exact .inr (congrArg Phase.decoding phase :)

theorem needMoreBits_ended {s : State} (h : s.core.phase.decoding = false) : (needMoreBits s).Ended := by
  rcases needMoreBits_cases s with ⟨b, rest, -, he⟩ | ⟨-, -, he⟩ | ⟨-, -, he⟩ | ⟨-, -, he⟩ <;> rw [he]
  · exact .inr h
  · exact .inl rfl
  · exact .inl rfl
  · exact .inr h

theorem coreStep_ended {s t : State} (hi : s.Inv) (h : coreStep s = .next t) (hs : s.Ended) : t.Ended := by
  have hd (hb : s.state = .busy) : s.core.phase.decoding = false := hs.resolve_left (by rw [hb]; decide)
  rcases coreStep_cases s with ⟨-, he⟩ | ⟨hb, -, he⟩ | ⟨hb, hn, -⟩
  · obtain rfl : s = t := Host.Outcome.next.inj (he.symm.trans h)
    exact hs
  · obtain rfl : needMoreBits s.prepared = t := Host.Outcome.next.inj (he.symm.trans h)
    exact needMoreBits_ended (by rw [phase_prepared]; exact hd hb)
  · rw [needed_prepared] at hn
    obtain ⟨v, hv, t', he, hacts⟩ := coreStep_completes hi hb hn
    obtain rfl : t' = t := Host.Outcome.next.inj (he.symm.trans h)
    exact hacts.ended (by rw [hv.phase]; exact hd hb)

/-! ## The shape of the output log -/

theorem State.OutlogOk.of_outlog {s t : State} (h : s.OutlogOk) (hlog : t.outlog = s.outlog) (hend : s.Ended → t.Ended) :
    t.OutlogOk where
  earlier := by rw [hlog]; exact h.earlier
  full := by rw [hlog]; exact h.full
  last := by
    rw [hlog]
    intro r hr hf
    obtain ⟨hpos, hlt, hs⟩ := h.last r hr hf
    exact ⟨hpos, hlt, hend hs⟩

theorem State.Stays.outlogOk {s t : State} (h : s.Stays t) (hs : s.OutlogOk) : t.OutlogOk :=
  hs.of_outlog (outlog_of_account h.account) h.ended

theorem outlogOk_of_nil {s : State} (h : s.outlog = []) : s.OutlogOk := by
  constructor <;> rw [h] <;> nofun

/-- While the stream is being decoded every flush made was a full window. -/
theorem State.OutlogOk.all_full {s : State} (h : s.OutlogOk) (hs : ¬ s.Ended) {r : FlushRecord} (hr : r ∈ s.outlog) :
    r.final = false ∧ r.bytes.length = Config.windowSize := by
  have hl := List.getLast?_eq_some_getLast (List.ne_nil_of_mem hr)
  rw [← List.dropLast_append_getLast? _ hl, List.mem_append, List.mem_singleton] at hr
  rcases hr with hr | hr
  · exact h.earlier r hr
  · rw [← hr] at hl
    cases hf : r.final with
    | false => exact ⟨rfl, h.full r hl hf⟩
    | true =>
      obtain ⟨-, -, hend⟩ := h.last r hl hf
      exact absurd hend hs

/-- A flush made while decoding, of a full window or as the final one of part of a window, keeps the shape. -/
theorem outlogOk_flush (final : Bool) {s u : State} (h : s.OutlogOk) (hs : ¬ s.Ended) (hlog : u.outlog = s.outlog)
    (hfull : final = false → u.core.w.toNat = Config.windowSize)
    (hpart : final = true → 0 < u.core.w.toNat ∧ u.core.w.toNat < Config.windowSize ∧ u.core.phase.decoding = false) :
    (flush final u).OutlogOk := by
  have hlast : (flush final u).outlog.getLast? = some { bytes := u.flushBytes, final := final } := by
    rw [flush_outlog, List.getLast?_concat]
  have hlen := length_flushBytes u
  refine ⟨fun r hr => ?_, fun r hr hf => ?_, fun r hr hf => ?_⟩
  · rw [flush_outlog, List.dropLast_concat, hlog] at hr
    exact h.all_full hs hr
  · obtain rfl := Option.some.inj (hlast.symm.trans hr)
    exact hlen.trans (hfull hf)
  · obtain rfl := Option.some.inj (hlast.symm.trans hr)
    obtain ⟨hpos, hlt, hdec⟩ := hpart hf
    exact ⟨hlen.symm ▸ hpos, hlen.symm ▸ hlt, .inr hdec⟩

theorem outlogOk_coreStep {s t : State} (hi : s.Inv) (hs : s.OutlogOk) (h : coreStep s = .next t) : t.OutlogOk := by
  have hend := coreStep_ended hi h
  have ht : t.Inv := by
    obtain ⟨t', he, ht'⟩ := coreStep_inv hi
    obtain rfl : t' = t := Host.Outcome.next.inj (he.symm.trans h)
    exact ht'
  cases coreStep_delivers h with
  | nothing same => exact hs.of_outlog (outlog_of_account same) hend
  | fullWindow u same flushed =>
    subst flushed
    obtain ⟨hc, -⟩ := ht.ok nofun
    have hdec : u.core.phase.decoding = true := hc.fullFlush rfl rfl
    have hgoes : ¬ (flush false u).Ended := fun he => nomatch hdec.symm.trans (he.resolve_left nofun)
    exact outlogOk_flush false hs (fun he => hgoes (hend he)) (outlog_of_account same) (fun _ => hc.full.2 ⟨rfl, rfl⟩)
      nofun
  | remainder u same flushed phase left =>
    subst flushed
    obtain ⟨hc, -⟩ := ht.ok nofun
    have hx : u.core.phase = .xDone := (hc.finalFlush rfl).2
    have hlt : u.core.w.toNat < Config.windowSize := Nat.lt_of_le_of_ne hc.range fun hw => nomatch (hc.full.1 hw).2
    have hgoes : ¬ s.Ended := by
      rintro (he | hd)
      · rw [coreStep_idle (by rw [he]; decide)] at h
        exact nomatch he.symm.trans (congrArg State.state (Host.Outcome.next.inj h))
      · rw [phase] at hd
        cases hd
    exact outlogOk_flush true hs hgoes (outlog_of_account same) nofun fun _ => ⟨left, hlt, by rw [hx]; rfl⟩

end Sys2Proof.Machine

open Sys2Proof Sys2Proof.Machine

/-- Settles O55: a core step keeps the account or adds one flush to it (`coreStep_delivers`), a host step but OPEN keeps
it (`stays_hostStep`), and after a reset there is nothing to account for. -/
theorem outputStaysAccounted : Obligations.OutputStaysAccounted := by
  intro s t hs h
  have hrest : ∀ rest, ({ s with agenda := rest } : State).Accounted := fun rest => hs.of_account rfl
  rcases step_cases s with ⟨-, he⟩ | ⟨rest, -, he⟩ | ⟨a, rest, -, he⟩ | ⟨rest, -, he⟩ <;> rw [he] at h
  · exact hs.coreStep h
  · exact (hrest rest).coreStep h
  · rcases stays_hostStep h with rfl | hstays
    · exact accounted_reset_with ..
    · exact (hrest rest).of_account hstays.account
  · cases h
    exact accounted_reset_with ..

/-- Settles O56: a core step that flushes was decoding, and its flush is full unless it ends the stream
(`outlogOk_coreStep`); no other step but a reset appends to the log or goes back to decoding (`stays_hostStep`). -/
theorem outlogKeepsItsShape : Obligations.OutlogKeepsItsShape := by
  intro s t hi hs h
  have hrest : ∀ rest, ({ s with agenda := rest } : State).OutlogOk := fun rest => hs.of_outlog rfl id
  rcases step_cases s with ⟨-, he⟩ | ⟨rest, -, he⟩ | ⟨a, rest, -, he⟩ | ⟨rest, -, he⟩ <;> rw [he] at h
  · exact outlogOk_coreStep hi hs h
  · exact outlogOk_coreStep (hi.withPort ..) (hrest rest) h
  · rcases stays_hostStep h with rfl | hstays
    · exact outlogOk_of_nil rfl
    · exact hstays.outlogOk (hrest rest)
  · cases h
    exact outlogOk_of_nil rfl

/-- Settles O45: `afterWrite` by whether it fills the window, a read after a write (`Memory.read_write`), and the bytes of
a flush (`length_flushBytes`, `getElem?_flushBytes`). -/
theorem windowWriteAndFlush : Obligations.WindowWriteAndFlush := by
  refine ⟨fun b s hw => if_neg (Nat.ne_of_lt hw), fun b s hw => if_pos hw, fun m a i b => m.read_write a i b,
    fun final s => ?_, length_flushBytes, fun s i b => getElem?_flushBytes⟩
  rw [BitVec.ofNat_toNat]
  rfl

/-- Settles O11: CHECK is accepted in `DONE` alone, and its comparison has the cases of `compareTrailer_cases`. -/
theorem checkCommand : Obligations.CheckCommand := by
  refine ⟨fun s hd => if_pos hd, fun s hd => if_neg hd, fun s => ?_⟩
  unfold State.compareTrailer State.crcWord
  exact ⟨fun hcrc => if_pos hcrc, fun hcrc hlen => by rw [if_neg (not_not.2 hcrc), if_pos hlen],
    fun hcrc hlen => by rw [if_neg (not_not.2 hcrc), if_neg (not_not.2 hlen)]⟩

/-- Settles O46: eight shift steps are an iteration (`crcBits_eq_iterate`), and the check values are computed. -/
theorem crcOfBytes : Obligations.CrcOfBytes :=
  ⟨fun c b => crcBits_eq_iterate 8 (c ^^^ b.setWidth 32), by decide +kernel⟩
end

section
/-! PROOF. The core takes bytes from the head of the input queue only (spec/45_host.md R290, spec/20_memory.md R72): a
fetch takes one, and no action takes any. -/

namespace Sys2Proof.Machine

/-! ## The input side of a state -/

/-- What of the state is about the bytes of the input port (spec/10_state.md R24, R50). -/
structure InputSide where
  inq : List Byte
  interm : Terminal
  taken : Nat

/-- The input side of `s`. -/
def State.input (s : State) : InputSide := { inq := s.inq, interm := s.interm, taken := s.core.inBytesTotal }

/-- `t` has taken no byte that `s` had not; after a raise the count is unspecified (spec/60_exceptions.md R303). -/
structure State.TakesNoByte (s t : State) : Prop where
  inq : t.inq = s.inq
  interm : t.interm = s.interm
  taken : t.state = .error ∨ t.core.inBytesTotal = s.core.inBytesTotal

theorem takesNoByte_of_input {s t : State} (h : t.input = s.input) : s.TakesNoByte t :=
  ⟨congrArg InputSide.inq h, congrArg InputSide.interm h, .inr (congrArg InputSide.taken h)⟩

theorem takesNoByte_raise (e : ErrCode) (d : ErrDetail) (f : ErrTable) {s u : State} (h : u.input = s.input) :
    s.TakesNoByte (raiseError e d f u) :=
  ⟨congrArg InputSide.inq h, congrArg InputSide.interm h, .inl rfl⟩

/-- The input side of the first state is all that matters of it. -/
theorem State.TakesNoByte.of_input {s u t : State} (h : u.TakesNoByte t) (hu : u.input = s.input) :
    s.TakesNoByte t where
  inq := h.inq.trans (congrArg InputSide.inq hu)
  interm := h.interm.trans (congrArg InputSide.interm hu)
  taken := h.taken.imp id fun ht => ht.trans (congrArg InputSide.taken hu)

/-! ## Operations that take no byte -/

theorem prepared_input (s : State) : s.prepared.input = s.input := by
  unfold State.prepared
  split_ifs <;> rfl

theorem consumed_input (s : State) : s.consumed.input = s.input := by
  unfold State.consumed
  split <;> rfl

theorem afterWrite_input (b : Byte) (s : State) : (s.afterWrite b).input = s.input := by simp [State.input]

theorem endFlush_input (s : State) : s.endFlush.input = s.input := by
  unfold State.endFlush
  split_ifs <;> rfl

theorem countStored_input (s : State) : s.countStored.input = s.input := by
  unfold State.countStored
  split_ifs <;> rfl

theorem countMatch_input (s : State) (d : Draw) : ({ s.countMatch with draws := d } : State).input = s.input := by
  rw [countMatch_frame]
  rfl

theorem takesNoByte_compareTrailer {s u : State} (h : u.input = s.input) : s.TakesNoByte u.compareTrailer := by
  rcases compareTrailer_cases u with ⟨-, he⟩ | ⟨-, -, he⟩ | ⟨-, -, he⟩ <;> rw [he]
  · exact takesNoByte_raise _ _ _ h
  · exact takesNoByte_raise _ _ _ h
  · exact takesNoByte_of_input h

theorem takesNoByte_checkNlen (v : BitVec 16) (s : State) : s.TakesNoByte (checkNlen v s) := by
  unfold checkNlen
  split_ifs
  · exact takesNoByte_raise _ _ _ rfl
  · exact takesNoByte_of_input rfl
  · exact takesNoByte_of_input rfl

theorem takesNoByte_takeHclen (v : BitVec 4) (s : State) : s.TakesNoByte (takeHclen v s) := by
  unfold takeHclen
  split_ifs
  · exact takesNoByte_raise _ _ _ rfl
  · exact takesNoByte_of_input rfl

theorem takesNoByte_buildCodeLengthTable (s : State) : s.TakesNoByte (buildCodeLengthTable s) := by
  unfold buildCodeLengthTable
  split
  · exact takesNoByte_raise _ _ _ rfl
  · exact takesNoByte_of_input rfl

theorem takesNoByte_buildSymbolTables (s : State) : s.TakesNoByte (buildSymbolTables s) := by
  unfold buildSymbolTables
  split
  · exact takesNoByte_raise _ _ _ rfl
  · split
    · exact takesNoByte_raise _ _ _ rfl
    · exact takesNoByte_of_input rfl

theorem takesNoByte_takeDistance (d : BitVec 16) (s : State) : s.TakesNoByte (takeDistance d s) := by
  unfold takeDistance
  split_ifs
  · exact takesNoByte_raise _ _ _ rfl
  · exact takesNoByte_of_input rfl

/-! ## No instruction takes a byte -/

/-- Where the result goes on, no byte is taken. -/
def State.LeavesInput (s : State) (r : Result) : Prop := ∀ t, r = .next t → s.TakesNoByte t

theorem leavesInput_next {s t : State} (h : s.TakesNoByte t) : s.LeavesInput (.next t) := by
  rintro _ ⟨⟩
  exact h

theorem leavesInput_same {s t : State} (h : t.input = s.input) : s.LeavesInput (.next t) :=
  leavesInput_next (takesNoByte_of_input h)

theorem leavesInput_windowWrite (b : Byte) {s u : State} (h : u.input = s.input) :
    s.LeavesInput (windowWrite b u) := by
  rcases windowWrite_cases b u with ⟨-, he⟩ | ⟨-, he⟩ <;> rw [he]
  · exact leavesInput_same ((afterWrite_input b u).trans h)
  · rintro _ ⟨⟩

theorem leavesInput_storeLengths (r : Nat) (v : BitVec 4) (s : State) : s.LeavesInput (storeLengths r v s) := by
  rcases storeLengths_cases r v s with ⟨-, t, he, hs⟩ | ⟨-, he⟩ <;> rw [he]
  · exact leavesInput_same (congrArg State.input hs.frame :)
  · rintro _ ⟨⟩

theorem leavesInput_repeatLengths (r : Nat) (v : BitVec 4) (s : State) : s.LeavesInput (repeatLengths r v s) := by
  rcases repeatLengths_cases r v s with ⟨-, he⟩ | ⟨-, he⟩ <;> rw [he]
  · exact leavesInput_next (takesNoByte_raise _ _ _ rfl)
  · exact leavesInput_storeLengths r v s

theorem leavesInput_clRepPrev (p : SymPart 2) (s : State) : s.LeavesInput (execClRepPrev p s) := by
  cases p with
  | code =>
    simp only [execClRepPrev]
    split_ifs
    · exact leavesInput_next (takesNoByte_raise _ _ _ rfl)
    · exact leavesInput_same rfl
  | extra e => exact leavesInput_repeatLengths _ _ s

theorem leavesInput_stored (x : StoredField) (s : State) : s.LeavesInput (execStored x s) := by
  cases x with
  | len v => exact leavesInput_same rfl
  | nlen v => exact leavesInput_next (takesNoByte_checkNlen v s)
  | byte b => exact leavesInput_windowWrite b (countStored_input s)

theorem leavesInput_takeClLen (v : BitVec 3) (s : State) : s.LeavesInput (takeClLen v s) := by
  unfold takeClLen
  split
  · rintro _ ⟨⟩
  · exact leavesInput_same rfl

theorem leavesInput_dynhdr (x : DynField) (s : State) : s.LeavesInput (execDynhdr x s) := by
  cases x with
  | hlit v | hdist v => exact leavesInput_same rfl
  | hclen v => exact leavesInput_next (takesNoByte_takeHclen v s)
  | clLen v => exact leavesInput_takeClLen v s
  | build => exact leavesInput_next (takesNoByte_buildCodeLengthTable s)

theorem leavesInput_lengthElement {x : Nat} (sym : BitVec 9) (base : Nat) (p : SymPart x) (s : State) :
    s.LeavesInput (.next (lengthElement sym base p s)) := by
  cases p <;> exact leavesInput_same rfl

theorem leavesInput_distanceElement {x : Nat} (sym : BitVec 5) (base : Nat) (p : DistPart x) (s : State) :
    s.LeavesInput (distanceElement sym base p s) := by
  cases p with
  | code => exact leavesInput_same rfl
  | extra e => exact leavesInput_next (takesNoByte_takeDistance _ s)
  | copy => exact leavesInput_windowWrite _ (countMatch_input s _)

theorem leavesInput_resume (s : State) : s.LeavesInput (execResume s) := by
  unfold execResume
  split
  case h_2 => exact leavesInput_same (endFlush_input s.accepted)
  all_goals exact leavesInput_same rfl

theorem leavesInput_readByte (p : CmdPart) (s : State) : s.LeavesInput (execReadByte p s) := by
  cases p with
  | command =>
    simp only [execReadByte]
    split_ifs <;> exact leavesInput_same rfl
  | byte b => exact leavesInput_same rfl

theorem leavesInput_check (s : State) : s.LeavesInput (execCheck s) := by
  unfold execCheck
  split_ifs
  · exact leavesInput_next (takesNoByte_compareTrailer rfl)
  · exact leavesInput_same rfl

theorem leavesInput_checkTrailer (p : CmdPart) (s : State) : s.LeavesInput (execCheckTrailer p s) := by
  cases p with
  | command =>
    simp only [execCheckTrailer]
    split_ifs <;> exact leavesInput_same rfl
  | byte b =>
    obtain ⟨cr, ln, hput⟩ := putTrailerByte_eq s b
    simp only [execCheckTrailer, hput]
    split_ifs
    · exact leavesInput_next (takesNoByte_compareTrailer rfl)
    · exact leavesInput_same rfl

/-- Every instruction but OPEN leaves the input port alone: bytes are taken before an action, not by it. -/
theorem leavesInput_exec {i : Instr} (hne : i ≠ .openStream) (s : State) : s.LeavesInput (exec i s) := by
  cases i with
  | openStream => exact absurd rfl hne
  | resume => exact leavesInput_resume s
  | readByte p => exact leavesInput_readByte p s
  | check => exact leavesInput_check s
  | checkTrailer p => exact leavesInput_checkTrailer p s
  | blkStored f | blkFixed f | blkDynamic f | cmdReserved w | eob => exact leavesInput_same rfl
  | blkReserved f | llInvalid286 | llInvalid287 | distInvalid30 | distInvalid31 =>
    exact leavesInput_next (takesNoByte_raise _ _ _ rfl)
  | stored x => exact leavesInput_stored x s
  | dynhdr x => exact leavesInput_dynhdr x s
  | clLen v => exact leavesInput_storeLengths 1 v s
  | clRepPrev p => exact leavesInput_clRepPrev p s
  | clRepZeroS p | clRepZeroL p =>
    cases p with
    | code => exact leavesInput_same rfl
    | extra e => exact leavesInput_repeatLengths _ _ s
  | lit c => exact leavesInput_windowWrite c rfl
  | len257 p | len258 p | len259 p | len260 p | len261 p | len262 p | len263 p | len264 p | len265 p | len266 p
  | len267 p | len268 p | len269 p | len270 p | len271 p | len272 p | len273 p | len274 p | len275 p | len276 p
  | len277 p | len278 p | len279 p | len280 p | len281 p | len282 p | len283 p | len284 p | len285 p =>
    exact leavesInput_lengthElement _ _ p s
  | dist0 p | dist1 p | dist2 p | dist3 p | dist4 p | dist5 p | dist6 p | dist7 p | dist8 p | dist9 p | dist10 p
  | dist11 p | dist12 p | dist13 p | dist14 p | dist15 p | dist16 p | dist17 p | dist18 p | dist19 p | dist20 p
  | dist21 p | dist22 p | dist23 p | dist24 p | dist25 p | dist26 p | dist27 p | dist28 p | dist29 p =>
    exact leavesInput_distanceElement _ _ p s

/-! ## What a core step takes -/

theorem endStream_input (s : State) : (endStream s).input = s.input := by
  unfold endStream
  split_ifs <;> rfl

theorem takesNoByte_engineAction (s : State) : s.TakesNoByte (engineAction s) := by
  unfold engineAction
  split
  case h_2 => exact takesNoByte_buildSymbolTables s
  case h_3 => exact takesNoByte_of_input (endStream_input s)
  all_goals exact takesNoByte_of_input rfl

theorem leavesInput_coreAction (s : State) : s.LeavesInput (coreAction s) := by
  rcases coreAction_cases s with
    ⟨-, he⟩ | ⟨c, hc, ⟨i, k, hd, he⟩ | ⟨n, -, he⟩ | ⟨e, -, he⟩ | ⟨e, -, he⟩ | ⟨-, he⟩⟩ <;> rw [he]
  · exact leavesInput_next (takesNoByte_engineAction s)
  · have hne : c ≠ .command := fun hcmd => ctx_ne_command s (hcmd ▸ hc)
    intro t ht
    exact (leavesInput_exec (ne_openStream_of_decode hne hd) s.consumed t ht).of_input (consumed_input s)
  · exact leavesInput_same (consumed_input s)
  · exact leavesInput_next (takesNoByte_raise _ _ _ rfl)
  · exact leavesInput_next (takesNoByte_raise _ _ _ rfl)
  · rintro _ ⟨⟩

/-- `t` has taken the head of `INQ` (spec/45_host.md R290, spec/10_state.md R23). -/
structure State.TakesHead (s t : State) : Prop where
  head : ∃ b, s.inq = b :: t.inq
  interm : t.interm = s.interm
  taken : t.core.inBytesTotal = s.core.inBytesTotal + 1

/-- Waiting for bits takes the head of `INQ`, or nothing where there is none (spec/40_bitreader.md R100). -/
theorem needMoreBits_takes (s : State) : s.TakesNoByte (needMoreBits s) ∨ s.TakesHead (needMoreBits s) := by
  rcases needMoreBits_cases s with ⟨b, rest, hq, he⟩ | ⟨-, -, he⟩ | ⟨-, -, he⟩ | ⟨-, -, he⟩ <;> rw [he]
  · exact .inr ⟨⟨b, hq⟩, rfl, rfl⟩
  · exact .inl (takesNoByte_raise _ _ _ rfl)
  · exact .inl (takesNoByte_raise _ _ _ rfl)
  · exact .inl (takesNoByte_of_input rfl)

/-- A core step takes no byte, or the head of `INQ`. -/
theorem coreStep_takes {s t : State} (h : coreStep s = .next t) : s.TakesNoByte t ∨ s.TakesHead t := by
  have hp := prepared_input s
  rcases coreStep_cases s with ⟨-, he⟩ | ⟨-, -, he⟩ | ⟨-, -, he⟩ <;> rw [he] at h
  · cases h
    exact .inl (takesNoByte_of_input rfl)
  · cases h
    refine (needMoreBits_takes s.prepared).imp (fun hn => hn.of_input hp) fun ht => ?_
    exact ⟨s.prepared_inq ▸ ht.head, ht.interm.trans s.prepared_interm, s.prepared_inBytesTotal ▸ ht.taken⟩
  · exact .inl ((leavesInput_coreAction _ t h).of_input hp)

/-- One more byte taken is one more in `IN_BYTES`, modulo 2^32 (spec/10_state.md R23). -/
theorem State.TakesHead.inBytes {s t : State} (h : s.TakesHead t) : t.core.inBytes = s.core.inBytes + 1 := by
  rw [← CoreRegs.inBytes_succ, CoreRegs.inBytes, CoreRegs.inBytes, h.taken]

end Sys2Proof.Machine

open Sys2Proof Sys2Proof.Machine

/-- Settles O18: an action leaves the input port alone (`leavesInput_exec`), and a wait for bits takes the head of `INQ`
where there is one (`needMoreBits_takes`). -/
theorem bytesTakenInPushOrder : Obligations.BytesTakenInPushOrder := by
  intro s t h
  rcases coreStep_takes h with hn | ht
  · exact ⟨hn.interm, .inl ⟨hn.inq, hn.taken⟩⟩
  · obtain ⟨b, hb⟩ := ht.head
    exact ⟨ht.interm, .inr ⟨b, hb, ht.taken, ht.inBytes⟩⟩
end

section
/-! PROOF. The host's side (spec/45_host.md): the window port (R291), the declared values (R289), the input port (R290),
RESUME (R284), the bytes of READ_BYTE and CHECK_TRAILER (R285, R287), and whose turn a step is (R292). -/

namespace Sys2Proof.Machine

/-! ## The window port -/

theorem hostRead_window {s : State} {off : Offset} (h : 0x8000 ≤ off.toNat) :
    hostStep (.read off .byte) s =
      .next
        { s with
          reply := some (.byte (s.windowByte (off.toNat - 0x8000)))
          draws := s.windowDraws (off.toNat - 0x8000) } :=
  if_pos ((isWindowAccess_iff off .byte).2 ⟨rfl, h⟩)

/-- A cell that holds a value is read as it stands, unless the core is BUSY (spec/45_host.md R291). -/
theorem hostRead_window_of_read {s : State} {off : Offset} {b : Byte} (h : 0x8000 ≤ off.toNat) (hb : s.state ≠ .busy)
    (hr : s.window.read (off.toNat - 0x8000) = some b) :
    hostStep (.read off .byte) s = .next { s with reply := some (.byte b) } := by
  obtain ⟨hcell, hdraws⟩ := cell_of_read hr
  rw [hostRead_window h, State.windowByte, State.windowDraws, if_neg hb, if_neg hb, hcell, hdraws]

/-- A read while the core is BUSY, or of a cell with no value, is a free draw (spec/45_host.md R291). -/
theorem window_of_unread {s : State} {i : Nat} (h : s.state = .busy ∨ s.window.read i = none) :
    s.windowByte i = Config.freeByte s.draws i ∧ s.windowDraws i = s.draws.next := by
  by_cases hb : s.state = .busy
  · exact ⟨if_pos hb, if_pos hb⟩
  · have hr := h.resolve_left hb
    simp [State.windowByte, State.windowDraws, State.cell, State.cellDraws, hb, hr]

/-- The history behind `W` holds the next byte of a match, whose distance is within it (spec/10_state.md R52). -/
theorem State.Inv.sourceCell_written {s : State} (h : s.Inv) (hb : s.state = .busy) (hp : s.core.phase = .lCopy)
    (hf : s.config.distTooFar = .fault) : ∃ b, s.window.read s.sourceCell = some b := by
  obtain ⟨-, -, hh, -, hg⟩ := h.okBusy hb
  simp only [State.RangesOk, hp] at hg
  obtain ⟨-, -, -, -, h1, -, hfar⟩ := hg
  exact Option.isSome_iff_exists.1 (hh.behind (by rw [hp]; rfl) _ h1 (hfar hf))

/-! ## The declared values -/

theorem hostWrite_register {s : State} {off : Offset} (v : Word) (hlt : off.toNat < 0x8000) (hal : off.toNat % 4 = 0)
    (h0 : off ≠ 0) :
    hostStep (.write off .word v) s =
      if s.state = .busy then .next s
      else if off.toNat = 0x14 then .next { s with declCrc := v }
      else if off.toNat = 0x18 then .next { s with declLen := v }
      else .next s := by
  have hstep : hostStep (.write off .word v) s = hostWrite off .word v s := if_neg fun h => h0 h.1
  rw [hstep]
  exact if_pos ((isRegisterAccess_iff off .word).2 ⟨rfl, hlt, hal⟩)

theorem hostWrite_window {s : State} {off : Offset} (v : Word) (h : 0x8000 ≤ off.toNat) :
    hostStep (.write off .byte v) s = .next s := by
  have hstep : hostStep (.write off .byte v) s = hostWrite off .byte v s := if_neg nofun
  have hreg : ¬ isRegisterAccess off .byte = true := nofun
  rw [hstep, hostWrite, if_neg hreg, if_pos ((isWindowAccess_iff off .byte).2 ⟨rfl, h⟩)]

/-! ## RESUME in each `STATE` -/

theorem execResume_idle {s : State} (h : s.state = .idle) :
    execResume s = .next { s.accepted with state := .busy } := by
  simp only [execResume, h]

theorem execResume_finalFlush {s : State} (h : s.state = .flush) (hf : s.finalFlush = true) :
    execResume s = .next { s with reject := false, core.w := 0, finalFlush := false, state := .done } := by
  simp only [execResume, h]
  exact congrArg _ (if_pos hf)

theorem execResume_ended {s : State} (h : s.state = .done ∨ s.state = .error) :
    execResume s = .next s.accepted := by
  rcases h with h | h <;> simp only [execResume, h]

/-! ## The bytes of READ_BYTE and CHECK_TRAILER -/

/-- The action of `C_RDBYTE` aligns, takes 8 bits and runs the byte's meaning (spec/45_host.md R285). -/
theorem coreStep_readByte {s : State} (hb : s.state = .busy) (hp : s.core.phase = .cRdbyte)
    (hheld : 8 ≤ s.alignToByte.core.bitcnt.toNat) :
    coreStep s = exec (.readByte (.byte (s.alignToByte.field 8))) (s.alignToByte.took 8) := by
  have hprep := prepared_of_rdbyte hp
  have hc : State.ctx s = some .readByte := by simp only [State.ctx, hp]
  have hneed : s.alignToByte.needed = 8 := needed_of_ctx (c := .readByte) hc
  have hbits : s.alignToByte.instrBits = s.alignToByte.heldBits.take 8 := by
    rw [instrBits_of_ne (s := s.alignToByte) (by rw [← hprep, phase_prepared, hp]; decide), hneed]
  have hlen : ¬ s.alignToByte.instrBits.length < 8 := by
    rw [hbits, List.length_take, length_heldBits]
    omega
  have hdec : decode .readByte s.alignToByte.instrBits = .ok (.readByte (.byte (s.alignToByte.field 8)), 8) := by
    rw [decode, decodeField, if_neg hlen, hbits, List.take_take, Nat.min_self, natOfBits_take_heldBits _ hheld,
      BitVec.ofNat_toNat, BitVec.setWidth_eq]
  have hcons : ({ s.alignToByte with inWait := false } : State).consumed = s.alignToByte.took 8 := by
    have hctx : State.ctx ({ s.alignToByte with inWait := false } : State) = some .readByte := hc
    simp only [State.consumed, hctx]
    rw [needed_of_ctx hctx]
    rfl
  rw [coreStep_of_decode hb hc (by rw [hprep, hneed]; exact hheld) (by rw [hprep]; exact hdec), hprep, hcons]

/-- Bit by bit: byte `k` of the word is `b`, the rest of the word is kept (spec/45_host.md R287). -/
theorem getLsbD_setByte (v : Word) (k : Nat) {i : Nat} (b : Byte) (hi : i < 32) :
    (setByte v k b).getLsbD i = if 8 * k ≤ i ∧ i < 8 * k + 8 then b.getLsbD (i - 8 * k) else v.getLsbD i := by
  have hmask : (0xFF#32).getLsbD (i - 8 * k) = decide (i - 8 * k < 8) := by
    rw [BitVec.getLsbD_ofNat, show 0xFF = 2 ^ 8 - 1 by rfl, Nat.testBit_two_pow_sub_one, decide_eq_true (by omega),
      Bool.true_and]
  simp only [setByte, BitVec.getLsbD_or, BitVec.getLsbD_and, BitVec.getLsbD_not, BitVec.getLsbD_shiftLeft,
    BitVec.getLsbD_setWidth, hmask, hi]
  rcases Nat.lt_or_ge i (8 * k) with hlow | hge
  · rw [if_neg (by omega)]
    simp [hlow]
  · have hge' : ¬ i < 8 * k := by omega
    rcases Nat.lt_or_ge i (8 * k + 8) with hlt | hhigh
    · have h8 : i - 8 * k < 8 := by omega
      have h32 : i - 8 * k < 32 := by omega
      rw [if_pos ⟨hge, hlt⟩]
      simp [hge', h8, h32]
    · have h8 : ¬ i - 8 * k < 8 := by omega
      rw [if_neg (by omega)]
      simp [hge', h8, BitVec.getLsbD_of_ge b _ (Nat.not_lt.1 h8)]

theorem extractLsb'_setByte (v : Word) (b : Byte) {k j : Nat} (hj : j < 4) :
    (setByte v k b).extractLsb' (8 * j) 8 = if j = k then b else v.extractLsb' (8 * j) 8 := by
  refine BitVec.eq_of_getLsbD_eq fun i hi => ?_
  rw [BitVec.getLsbD_extractLsb', getLsbD_setByte v k b (by omega)]
  by_cases hjk : j = k
  · subst hjk
    rw [if_pos rfl, if_pos (by omega), Nat.add_sub_cancel_left]
    simp [hi]
  · rw [if_neg hjk, if_neg (by omega), BitVec.getLsbD_extractLsb']

end Sys2Proof.Machine

open Sys2Proof Sys2Proof.Machine

/-- Settles O4: outside BUSY a cell that holds a value is read as it stands (`hostRead_window_of_read`); every other
read is a free draw (`window_of_unread`). -/
theorem windowPortReads : Obligations.WindowPortReads := by
  intro s off h
  refine ⟨fun b hb hr => hostRead_window_of_read h hb hr, fun hu => ?_⟩
  obtain ⟨hbyte, hdraws⟩ := window_of_unread hu
  rw [hostRead_window h, hbyte, hdraws]

/-- Settles O58: while a flush is pending the cells below `FLUSH_LEN` are the newest record's bytes (`State.FlushOk`),
and a match's source is in the history behind `W` (`State.Inv.sourceCell_written`). -/
theorem invariantStatesReadWrittenCells : Obligations.InvariantStatesReadWrittenCells := by
  refine fun s h => ⟨fun hf => ?_, h.sourceCell_written⟩
  obtain ⟨-, -, -, hflush, -⟩ := h.ok (by rw [hf]; decide)
  obtain ⟨-, r, hlast, -, hlen, hread⟩ := hflush hf
  refine ⟨r, hlast, hlen, fun off b hoff hb => hostRead_window_of_read hoff (by rw [hf]; decide) ?_⟩
  have hlt := (List.getElem?_eq_some_iff.1 hb).1
  rw [hread _ (hlen ▸ hlt), hb]

/-- Settles O6: a word write of a register but `CMD` is `hostWrite_register`, a byte write of the window
`hostWrite_window`. -/
theorem declaredValueWrites : Obligations.DeclaredValueWrites := by
  intro s v
  have hcrc := hostWrite_register (s := s) (off := 0x14) v (by decide) (by decide) (by decide)
  have hlen := hostWrite_register (s := s) (off := 0x18) v (by decide) (by decide) (by decide)
  refine ⟨fun hb => ?_, fun hb => ?_, fun off hlt hal h0 h14 h18 => ?_, fun off h => hostWrite_window v h⟩
  · rw [hcrc, hlen, if_neg hb, if_neg hb]
    exact ⟨rfl, rfl⟩
  · rw [hcrc, hlen, if_pos hb, if_pos hb]
    exact ⟨rfl, rfl⟩
  · have h14' : off.toNat ≠ 0x14 := fun h => h14 (BitVec.eq_of_toNat_eq h)
    have h18' : off.toNat ≠ 0x18 := fun h => h18 (BitVec.eq_of_toNat_eq h)
    rw [hostWrite_register v hlt hal h0, if_neg h14', if_neg h18', ite_self]

/-- Settles O7: pushes and signals change the state where `INTERM` is NONE, and only there. -/
theorem inputPortRules : Obligations.InputPortRules := by
  refine fun s b => ⟨fun h => ?_, fun h => ?_⟩
  · exact ⟨congrArg _ (if_pos h), congrArg _ (if_pos h), congrArg _ (if_pos h)⟩
  · exact ⟨congrArg _ (if_neg h), congrArg _ (if_neg h), congrArg _ (if_neg h)⟩

/-- Settles O9: one equation of `execResume` for each `STATE`, and in FLUSH one for each kind of flush. -/
theorem resumeCommand : Obligations.ResumeCommand :=
  fun _ => ⟨execResume_idle, execResume_finalFlush, resume_fullFlush, execResume_ended, execResume_rejected⟩

/-- Settles O10: the command is accepted in DONE, the action is `coreStep_readByte`, and the byte's meaning is one
update. -/
theorem readByteCommand : Obligations.ReadByteCommand :=
  ⟨fun _ hd => if_pos hd, fun _ => coreStep_readByte, fun _ _ => rfl⟩

/-- Settles O12: the action reads a field of 8 bits (`coreStep_of_bits`); the byte goes where `TIDX` says, bit by bit
`getLsbD_setByte`, and the eighth ends in the comparison. -/
theorem checkTrailerCommand : Obligations.CheckTrailerCommand := by
  refine ⟨fun s hd => if_pos hd, fun s hr => ?_, fun s b h => ?_, fun s b h4 h7 => ?_, fun s b h => ?_,
    fun v b k j _ hj => extractLsb'_setByte v b hj⟩
  · exact coreStep_of_bits (c := .trailerByte) (mk := fun v => .checkTrailer (.byte v)) hr (by decide)
      (by simp only [State.ctx, hr.phase]) nofun rfl fun _ => rfl
  · have h8 : ¬ s.core.tidx.toNat + 1 = 8 := by omega
    simp only [exec, execCheckTrailer, if_neg h8, State.putTrailerByte, if_pos h]
  · have h8 : ¬ s.core.tidx.toNat + 1 = 8 := by omega
    simp only [exec, execCheckTrailer, if_neg h8, State.putTrailerByte, if_neg (Nat.not_lt.2 h4)]
  · simp only [exec, execCheckTrailer, State.putTrailerByte, h]
    rfl

/-- Settles O13: the equations of `step` at each head of the agenda, and a core that is not BUSY does nothing
(`coreStep_idle`). -/
theorem turnsAndScheduling : Obligations.TurnsAndScheduling := by
  refine fun s => ⟨fun h => ?_, fun rest h => ?_, fun a rest h => ?_, coreStep_idle⟩
  · simp only [step, h]
  · simp only [step, h]
  · simp only [step, h]
end

section
/-! PROOF. Errors (spec/60_exceptions.md R303 to R307): the raises an action can end in, each of a listed error and
keeping the output, and what can happen in `ERROR`. -/

namespace Sys2Proof.Machine

/-! ## What a raise keeps -/

/-- What a raise keeps of the state it is made in (spec/60_exceptions.md R303), and the draw its core registers come
from. -/
structure RaiseBase where
  outlog : List FlushRecord
  crcState : Word
  count : Word
  flushLen : BitVec 16
  declCrc : Word
  declLen : Word
  verified : Bool
  config : Params
  draws : Draw

/-- What a raise in `s` would keep. -/
def State.raiseBase (s : State) : RaiseBase where
  outlog := s.outlog
  crcState := s.crcState
  count := s.count
  flushLen := s.flushLen
  declCrc := s.declCrc
  declLen := s.declLen
  verified := s.verified
  config := s.config
  draws := s.draws

/-- `s` with other declared values, as a trailer byte leaves them (spec/45_host.md R287). -/
def State.declaring (cr ln : Word) (s : State) : State := { s with declCrc := cr, declLen := ln }

theorem declaring_raiseBase {s u : State} (cr ln : Word) (h : u.raiseBase = s.raiseBase) :
    (u.declaring cr ln).raiseBase = (s.declaring cr ln).raiseBase :=
  congrArg (fun b : RaiseBase => { b with declCrc := cr, declLen := ln }) h

/-- The errors of spec/60_exceptions.md R307. -/
def listedErrors : List (ErrCode × ErrDetail × ErrTable) :=
  [(.badHuffmanTable, .badBtype, .none), (.badHuffmanTable, .badCounts, .none),
   (.badHuffmanTable, .oversub, .codeLength), (.badHuffmanTable, .incomplete, .codeLength),
   (.badHuffmanTable, .emptyTable, .codeLength), (.badHuffmanTable, .repeatNoPrev, .codeLength),
   (.badHuffmanTable, .repeatOverflow, .codeLength), (.badHuffmanTable, .oversub, .litLen),
   (.badHuffmanTable, .incomplete, .litLen), (.badHuffmanTable, .oversub, .dist),
   (.badHuffmanTable, .incomplete, .dist), (.badHuffmanTable, .emptyTable, .litLen),
   (.badHuffmanTable, .emptyTable, .dist), (.badHuffmanTable, .invalidCode, .codeLength),
   (.badHuffmanTable, .invalidCode, .litLen), (.badHuffmanTable, .invalidCode, .dist),
   (.badHuffmanTable, .distTooFar, .dist), (.outOfMemory, .oom, .codeLength), (.outOfMemory, .oom, .litLen),
   (.outOfMemory, .oom, .dist), (.crcMismatch, .trailerCrc, .none), (.lengthMismatch, .storedNlen, .none),
   (.lengthMismatch, .trailerLen, .none), (.truncatedInput, .eof, .none), (.ioError, .io, .none)]

/-- `t` is what a raise of a listed error makes of `s`, as far as spec/60_exceptions.md R303 and R307 say. -/
structure State.Raises (s t : State) : Prop where
  listed : (t.errCode, t.errDetail, t.errTable) ∈ listedErrors
  memory : t.errCode = .outOfMemory → s.config.oomPossible = true
  output : s.KeepsOutput t
  core : t.core = Config.freeRegs s.draws

theorem keepsOutput_raiseError (e : ErrCode) (d : ErrDetail) (f : ErrTable) (s : State) :
    s.KeepsOutput (raiseError e d f s) :=
  ⟨rfl, rfl, rfl, rfl, rfl, rfl, rfl, rfl⟩

/-- What a raise keeps is all that matters of the state it is made in. -/
theorem State.Raises.of_raiseBase {s u t : State} (h : u.Raises t) (hu : u.raiseBase = s.raiseBase) : s.Raises t where
  listed := h.listed
  memory he := congrArg (fun b => b.config.oomPossible) hu ▸ h.memory he
  output :=
    { outlog := h.output.outlog.trans (congrArg RaiseBase.outlog hu)
      crcState := h.output.crcState.trans (congrArg RaiseBase.crcState hu)
      count := h.output.count.trans (congrArg RaiseBase.count hu)
      flushLen := h.output.flushLen.trans (congrArg RaiseBase.flushLen hu)
      declCrc := h.output.declCrc.trans (congrArg RaiseBase.declCrc hu)
      declLen := h.output.declLen.trans (congrArg RaiseBase.declLen hu)
      verified := h.output.verified.trans (congrArg RaiseBase.verified hu)
      config := h.output.config.trans (congrArg RaiseBase.config hu) }
  core := h.core.trans (congrArg (fun b => Config.freeRegs b.draws) hu)

/-! ## Results that raise listed errors only -/

/-- Where the result goes on in `ERROR`, `s` was in `ERROR` or a listed error was raised. -/
def State.RaisesOnly (s : State) (r : Result) : Prop :=
  ∀ t, r = .next t → t.state = .error → s.state = .error ∨ s.Raises t

theorem State.RaisesOnly.of_raiseBase {s u : State} {r : Result} (h : u.RaisesOnly r) (hstate : u.state = s.state)
    (hbase : u.raiseBase = s.raiseBase) : s.RaisesOnly r := fun t hr ht =>
  (h t hr ht).imp (fun hu => hstate ▸ hu) fun hraise => hraise.of_raiseBase hbase

theorem raisesOnly_same {s t : State} (h : t.state = s.state) : s.RaisesOnly (.next t) := by
  rintro _ ⟨⟩ ht
  exact .inl (h.symm.trans ht)

theorem raisesOnly_of_ne {s t : State} (h : t.state ≠ .error) : s.RaisesOnly (.next t) := by
  rintro _ ⟨⟩ ht
  exact absurd ht h

theorem raisesOnly_fault (s : State) (f : Fault) : s.RaisesOnly (.fault f) := by
  rintro _ ⟨⟩

/-- A raise of a listed error. -/
theorem raisesOnly_raise {e : ErrCode} {d : ErrDetail} {f : ErrTable} {s u : State} (hl : (e, d, f) ∈ listedErrors)
    (hm : e = .outOfMemory → u.config.oomPossible = true) (h : u.raiseBase = s.raiseBase) :
    s.RaisesOnly (.next (raiseError e d f u)) := by
  rintro _ ⟨⟩ -
  have hraise : u.Raises (raiseError e d f u) := ⟨hl, hm, keepsOutput_raiseError e d f u, rfl⟩
  exact .inr (hraise.of_raiseBase h)

theorem raisesOnly_windowWrite (b : Byte) {s u : State} (h : u.state = s.state) : s.RaisesOnly (windowWrite b u) := by
  rcases windowWrite_cases b u with ⟨-, he⟩ | ⟨-, he⟩ <;> rw [he]
  · rcases afterWrite_cases b u with ⟨-, he'⟩ | ⟨-, he'⟩ <;> rw [he']
    · exact raisesOnly_same h
    · exact raisesOnly_of_ne nofun
  · exact raisesOnly_fault s _

/-! ## Commands -/

/-- A comparison of the trailer raises one of its two errors, or succeeds (spec/44_window_crc.md R269). -/
theorem raisesOnly_compareTrailer {s u : State} (hu : u.state ≠ .error) (h : u.raiseBase = s.raiseBase) :
    s.RaisesOnly (.next u.compareTrailer) := by
  rcases compareTrailer_cases u with ⟨-, he⟩ | ⟨-, -, he⟩ | ⟨-, -, he⟩ <;> rw [he]
  · exact raisesOnly_raise (by decide) nofun h
  · exact raisesOnly_raise (by decide) nofun h
  · exact raisesOnly_of_ne hu

theorem raisesOnly_resume (s : State) : s.RaisesOnly (execResume s) := by
  unfold execResume
  split
  case h_2 =>
    unfold State.endFlush
    split_ifs <;> exact raisesOnly_of_ne nofun
  case h_1 => exact raisesOnly_of_ne nofun
  all_goals exact raisesOnly_same rfl

theorem raisesOnly_readByte (p : CmdPart) (s : State) : s.RaisesOnly (execReadByte p s) := by
  cases p with
  | command =>
    simp only [execReadByte]
    split_ifs
    · exact raisesOnly_of_ne nofun
    · exact raisesOnly_same rfl
  | byte b => exact raisesOnly_of_ne nofun

theorem raisesOnly_check (s : State) : s.RaisesOnly (execCheck s) := by
  unfold execCheck
  split_ifs with hd
  · have hne : s.accepted.state ≠ .error := hd ▸ nofun
    exact raisesOnly_compareTrailer hne rfl
  · exact raisesOnly_same rfl

theorem raisesOnly_checkTrailerCommand (s : State) : s.RaisesOnly (execCheckTrailer .command s) := by
  simp only [execCheckTrailer]
  split_ifs
  · exact raisesOnly_of_ne nofun
  · exact raisesOnly_same rfl

/-- A trailer byte is stored before its CHECK, so that the raise keeps the declared values it made (spec/45_host.md
R287). -/
theorem raisesOnly_trailerByte (b : Byte) (s : State) :
    ∃ cr ln, (s.declaring cr ln).RaisesOnly (execCheckTrailer (.byte b) s) := by
  obtain ⟨cr, ln, hput⟩ := putTrailerByte_eq s b
  refine ⟨cr, ln, ?_⟩
  simp only [execCheckTrailer, hput]
  split_ifs
  · exact raisesOnly_compareTrailer nofun rfl
  · exact raisesOnly_same rfl

/-! ## Elements of the stream -/

theorem raisesOnly_stored (x : StoredField) (s : State) : s.RaisesOnly (execStored x s) := by
  cases x with
  | len v => exact raisesOnly_same rfl
  | nlen v =>
    show s.RaisesOnly (.next (checkNlen v s))
    unfold checkNlen
    split_ifs
    · exact raisesOnly_raise (by decide) nofun rfl
    · exact raisesOnly_same rfl
    · exact raisesOnly_same rfl
  | byte b =>
    refine raisesOnly_windowWrite b ?_
    unfold State.countStored
    split_ifs <;> rfl

/-- A dynamic build fails with an error of its own table (spec/41_huffman.md R124, R128). -/
theorem listed_of_buildDynamic {a : Alphabet} {lens : List Nat} {s : State} {e : ErrCode} {d : ErrDetail}
    (h : buildDynamic a lens s = .error (e, d)) :
    (e, d, a.errTable) ∈ listedErrors ∧ (e = .outOfMemory → s.config.oomPossible = true) := by
  rcases buildDynamic_cases a lens s with he | ⟨-, he⟩ | ⟨-, he⟩ | ⟨hoom, he⟩ <;> rw [he] at h <;> cases h
  · exact ⟨by cases a <;> decide, nofun⟩
  · exact ⟨by cases a <;> decide, nofun⟩
  · exact ⟨by cases a <;> decide, fun _ => hoom⟩

theorem raisesOnly_buildError {a : Alphabet} {lens : List Nat} {s : State} {e : ErrCode} {d : ErrDetail}
    (h : buildDynamic a lens s = .error (e, d)) : s.RaisesOnly (.next (raiseError e d a.errTable s)) := by
  obtain ⟨hlisted, hoom⟩ := listed_of_buildDynamic h
  exact raisesOnly_raise hlisted hoom rfl

theorem raisesOnly_buildCodeLengthTable (s : State) : s.RaisesOnly (.next (buildCodeLengthTable s)) := by
  cases hb : buildDynamic .cl s.clLengths s with
  | error p =>
    rw [buildCodeLengthTable_error hb]
    exact raisesOnly_buildError hb
  | ok t =>
    rw [buildCodeLengthTable_ok hb]
    exact raisesOnly_same rfl

theorem raisesOnly_buildSymbolTables (s : State) : s.RaisesOnly (.next (buildSymbolTables s)) := by
  cases hl : buildDynamic .ll s.litLengths s with
  | error p =>
    rw [buildSymbolTables_litError hl]
    exact raisesOnly_buildError hl
  | ok lt =>
    cases hd : buildDynamic .dist s.distLengths s with
    | error p =>
      rw [buildSymbolTables_distError hl hd]
      exact raisesOnly_buildError hd
    | ok dt =>
      rw [buildSymbolTables_ok hl hd]
      exact raisesOnly_same rfl

theorem raisesOnly_dynhdr (x : DynField) (s : State) : s.RaisesOnly (execDynhdr x s) := by
  cases x with
  | hlit v | hdist v => exact raisesOnly_same rfl
  | hclen v =>
    show s.RaisesOnly (.next (takeHclen v s))
    unfold takeHclen
    split_ifs
    · exact raisesOnly_raise (by decide) nofun rfl
    · exact raisesOnly_same rfl
  | clLen v =>
    show s.RaisesOnly (takeClLen v s)
    unfold takeClLen
    split
    · exact raisesOnly_fault s _
    · exact raisesOnly_same rfl
  | build => exact raisesOnly_buildCodeLengthTable s

theorem raisesOnly_storeLengths (r : Nat) (v : BitVec 4) (s : State) : s.RaisesOnly (storeLengths r v s) := by
  rcases storeLengths_cases r v s with ⟨-, t, he, hs⟩ | ⟨-, he⟩ <;> rw [he]
  · exact raisesOnly_same (congrArg State.state hs.frame :)
  · exact raisesOnly_fault s _

theorem raisesOnly_repeatLengths (r : Nat) (v : BitVec 4) (s : State) : s.RaisesOnly (repeatLengths r v s) := by
  rcases repeatLengths_cases r v s with ⟨-, he⟩ | ⟨-, he⟩ <;> rw [he]
  · exact raisesOnly_raise (by decide) nofun rfl
  · exact raisesOnly_storeLengths r v s

theorem raisesOnly_clRepPrev (p : SymPart 2) (s : State) : s.RaisesOnly (execClRepPrev p s) := by
  cases p with
  | code =>
    simp only [execClRepPrev]
    split_ifs
    · exact raisesOnly_raise (by decide) nofun rfl
    · exact raisesOnly_same rfl
  | extra e => exact raisesOnly_repeatLengths _ _ s

theorem raisesOnly_lengthElement {x : Nat} (sym : BitVec 9) (base : Nat) (p : SymPart x) (s : State) :
    s.RaisesOnly (.next (lengthElement sym base p s)) := by
  cases p <;> exact raisesOnly_same rfl

theorem raisesOnly_distanceElement {x : Nat} (sym : BitVec 5) (base : Nat) (p : DistPart x) (s : State) :
    s.RaisesOnly (distanceElement sym base p s) := by
  cases p with
  | code => exact raisesOnly_same rfl
  | extra e =>
    show s.RaisesOnly (.next (takeDistance (BitVec.ofNat 16 (base + e.toNat)) s))
    unfold takeDistance
    split_ifs
    · exact raisesOnly_raise (by decide) nofun rfl
    · exact raisesOnly_same rfl
  | copy =>
    refine raisesOnly_windowWrite _ ?_
    rw [countMatch_frame]

/-- Every instruction but a trailer byte raises listed errors only, and keeps what R303 lists. -/
theorem raisesOnly_exec {i : Instr} (hb : ∀ b, i ≠ .checkTrailer (.byte b)) (s : State) : s.RaisesOnly (exec i s) := by
  cases i with
  | openStream => exact raisesOnly_of_ne nofun
  | resume => exact raisesOnly_resume s
  | readByte p => exact raisesOnly_readByte p s
  | check => exact raisesOnly_check s
  | checkTrailer p =>
    cases p with
    | command => exact raisesOnly_checkTrailerCommand s
    | byte b => exact absurd rfl (hb b)
  | blkStored f | blkFixed f | blkDynamic f | cmdReserved w | eob => exact raisesOnly_same rfl
  | blkReserved f | llInvalid286 | llInvalid287 | distInvalid30 | distInvalid31 =>
    exact raisesOnly_raise (by decide) nofun rfl
  | stored x => exact raisesOnly_stored x s
  | dynhdr x => exact raisesOnly_dynhdr x s
  | clLen v => exact raisesOnly_storeLengths 1 v s
  | clRepPrev p => exact raisesOnly_clRepPrev p s
  | clRepZeroS p | clRepZeroL p =>
    cases p with
    | code => exact raisesOnly_same rfl
    | extra e => exact raisesOnly_repeatLengths _ _ s
  | lit c => exact raisesOnly_windowWrite c rfl
  | len257 p | len258 p | len259 p | len260 p | len261 p | len262 p | len263 p | len264 p | len265 p | len266 p
  | len267 p | len268 p | len269 p | len270 p | len271 p | len272 p | len273 p | len274 p | len275 p | len276 p
  | len277 p | len278 p | len279 p | len280 p | len281 p | len282 p | len283 p | len284 p | len285 p =>
    exact raisesOnly_lengthElement _ _ p s
  | dist0 p | dist1 p | dist2 p | dist3 p | dist4 p | dist5 p | dist6 p | dist7 p | dist8 p | dist9 p | dist10 p
  | dist11 p | dist12 p | dist13 p | dist14 p | dist15 p | dist16 p | dist17 p | dist18 p | dist19 p | dist20 p
  | dist21 p | dist22 p | dist23 p | dist24 p | dist25 p | dist26 p | dist27 p | dist28 p | dist29 p =>
    exact raisesOnly_distanceElement _ _ p s

/-! ## The raises of a decode -/

/-- The table a reject names is an alphabet's (spec/60_exceptions.md R302). -/
def NamesAlphabet : Reject → Prop
  | .emptyTable f | .invalidCode f => ∃ a : Alphabet, f = a.errTable
  | .needBits _ | .outsideAlphabet => True

theorem namesAlphabet_of_decodeField {n : Nat} {mk : Nat → Instr} {bits : List Bool} {r : Reject}
    (h : decodeField n mk bits = .error r) : NamesAlphabet r := by
  unfold decodeField at h
  split_ifs at h
  cases h
  trivial

theorem namesAlphabet_of_decodeCode {t : Table} {a : Alphabet} {bits : List Bool} {r : Reject} {x : BitVec 15}
    {m : BitVec 4} (h : decodeCode t a x m bits = .error r) : NamesAlphabet r := by
  induction bits generalizing x m with
  | nil => cases h; trivial
  | cons b bits ih =>
    simp only [decodeCode] at h
    split at h
    · cases h
    · split_ifs at h
      · cases h
        exact ⟨a, rfl⟩
      · split at h
        · cases h
        · next he =>
          cases h
          exact ih he

theorem namesAlphabet_of_decodeSymbol {t : Table} {a : Alphabet} {bits : List Bool} {r : Reject} {x : BitVec 15}
    {m : BitVec 4} (h : decodeSymbol a t x m bits = .error r) : NamesAlphabet r := by
  unfold decodeSymbol at h
  split_ifs at h
  · cases h
    exact ⟨a, rfl⟩
  · split at h
    · next he =>
      cases h
      exact namesAlphabet_of_decodeCode he
    · split at h <;> cases h
      trivial

/-- What the decoder rejects it rejects for a table of one of the alphabets, if for a table. -/
theorem namesAlphabet_of_decode {c : Ctx} {bits : List Bool} {r : Reject} (h : decode c bits = .error r) :
    NamesAlphabet r := by
  cases c with
  | symbol a t x m => exact namesAlphabet_of_decodeSymbol h
  | clBuild => cases h
  | repeatExtra k =>
    simp only [decode] at h
    split_ifs at h
    case neg => cases h; trivial
    all_goals exact namesAlphabet_of_decodeField h
  | lengthExtra m | distExtra d =>
    simp only [decode] at h
    split at h
    · exact namesAlphabet_of_decodeField h
    · cases h; trivial
  | copy d =>
    simp only [decode] at h
    split at h <;> cases h
    trivial
  | command | header | storedLen | storedNlen | storedByte | hlit | hdist | hclen | clLen | readByte | trailerByte =>
    simp only [decode] at h
    exact namesAlphabet_of_decodeField h

/-- A decode from an EMPTY table, and bits that are no code (spec/41_huffman.md R132, R133). -/
theorem raisesOnly_decodeError {d : ErrDetail} (hd : d = .emptyTable ∨ d = .invalidCode) {f : ErrTable}
    (hf : ∃ a : Alphabet, f = a.errTable) (s : State) : s.RaisesOnly (.next (raiseError .badHuffmanTable d f s)) := by
  obtain ⟨a, rfl⟩ := hf
  refine raisesOnly_raise ?_ nofun rfl
  rcases hd with rfl | rfl <;> cases a <;> decide

/-! ## The raises of a core step -/

/-- Only `C_TRAILER` decodes to a trailer byte (spec/45_host.md R287). -/
theorem phase_of_decode_trailerByte {s : State} {c : Ctx} {bits : List Bool} {b : Byte} {k : Nat}
    (hc : State.ctx s = some c) (h : decode c bits = .ok (.checkTrailer (.byte b), k)) : s.core.phase = .cTrailer := by
  have hfield : ReadsField c := by
    have hfmt : Format.cmd = c.format := format_of_decode h
    rcases readsField_cases c with rfl | rfl | ⟨a, t, x, n, rfl⟩ | hr
    · exact absurd hc (ctx_ne_command s)
    · cases hfmt
    · cases a <;> cases hfmt
    · exact hr
  obtain ⟨-, hf⟩ := field_of_decode hfield h
  obtain rfl : Ctx.trailerByte = c := (Prod.mk.inj (Option.some.inj hf)).1
  cases hp : s.core.phase with
  | cTrailer => rfl
  | _ => simp [State.ctx, hp] at hc

/-- A core step from `s` raised a listed error: what R303 lists is kept, but for the declared values that a
CHECK_TRAILER read. -/
inductive State.CoreRaises (s t : State) : Prop
  | raise (h : s.Raises t)
  | trailer (cr ln : Word) (phase : s.core.phase = .cTrailer) (h : (s.declaring cr ln).Raises t)

theorem State.CoreRaises.of_raiseBase {s u t : State} (h : u.CoreRaises t) (hbase : u.raiseBase = s.raiseBase)
    (hphase : u.core.phase = s.core.phase) : s.CoreRaises t := by
  cases h with
  | raise h => exact .raise (h.of_raiseBase hbase)
  | trailer cr ln phase h => exact .trailer cr ln (hphase ▸ phase) (h.of_raiseBase (declaring_raiseBase cr ln hbase))

theorem raisesOnly_engineAction (s : State) : s.RaisesOnly (.next (engineAction s)) := by
  unfold engineAction
  split
  case h_2 => exact raisesOnly_buildSymbolTables s
  case h_3 =>
    unfold endStream
    split_ifs <;> exact raisesOnly_of_ne nofun
  all_goals exact raisesOnly_same rfl

theorem raisesOnly_needMoreBits (s : State) : s.RaisesOnly (.next (needMoreBits s)) := by
  rcases needMoreBits_cases s with ⟨b, rest, -, he⟩ | ⟨-, -, he⟩ | ⟨-, -, he⟩ | ⟨-, -, he⟩ <;> rw [he]
  · exact raisesOnly_same rfl
  · exact raisesOnly_raise (by decide) nofun rfl
  · exact raisesOnly_raise (by decide) nofun rfl
  · exact raisesOnly_same rfl

theorem prepared_raiseBase (s : State) : s.prepared.raiseBase = s.raiseBase := by
  unfold State.prepared
  split_ifs <;> rfl

theorem prepared_state (s : State) : s.prepared.state = s.state := by
  unfold State.prepared
  split_ifs <;> rfl

theorem consumed_raiseBase (s : State) : s.consumed.raiseBase = s.raiseBase := by
  unfold State.consumed
  split <;> rfl

theorem consumed_state (s : State) : s.consumed.state = s.state := by
  unfold State.consumed
  split <;> rfl

/-- An instruction that a core action runs raises listed errors only. -/
theorem coreRaises_exec {s t : State} {c : Ctx} {i : Instr} {k : Nat} (hc : State.ctx s = some c)
    (hd : decode c s.instrBits = .ok (i, k)) (h : exec i s.consumed = .next t) (hs : s.state ≠ .error)
    (ht : t.state = .error) : s.CoreRaises t := by
  have hbase := consumed_raiseBase s
  have hstate := consumed_state s
  by_cases hb : ∃ b, i = .checkTrailer (.byte b)
  · obtain ⟨b, rfl⟩ := hb
    obtain ⟨cr, ln, hraise⟩ := raisesOnly_trailerByte b s.consumed
    have hdecl := hraise.of_raiseBase (s := s.declaring cr ln) hstate (declaring_raiseBase cr ln hbase)
    exact .trailer cr ln (phase_of_decode_trailerByte hc hd) ((hdecl t h ht).resolve_left hs)
  · have hraise := (raisesOnly_exec (fun b he => hb ⟨b, he⟩) s.consumed).of_raiseBase hstate hbase
    exact .raise ((hraise t h ht).resolve_left hs)

theorem coreRaises_coreAction {s t : State} (h : coreAction s = .next t) (hs : s.state ≠ .error)
    (ht : t.state = .error) : s.CoreRaises t := by
  have raise : ∀ {r}, s.RaisesOnly r → r = .next t → s.CoreRaises t := fun hr he =>
    .raise ((hr t he ht).resolve_left hs)
  rcases coreAction_cases s with
    ⟨-, he⟩ | ⟨c, hc, ⟨i, k, hd, he⟩ | ⟨n, -, he⟩ | ⟨f, hd, he⟩ | ⟨f, hd, he⟩ | ⟨-, he⟩⟩ <;> rw [he] at h
  · exact raise (raisesOnly_engineAction s) h
  · exact coreRaises_exec hc hd h hs ht
  · exact raise (raisesOnly_same (consumed_state s)) h
  · exact raise (raisesOnly_decodeError (.inl rfl) (namesAlphabet_of_decode hd :) s) h
  · exact raise (raisesOnly_decodeError (.inr rfl) (namesAlphabet_of_decode hd :) s) h
  · cases h

/-- A core step that enters `ERROR` raised a listed error (spec/60_exceptions.md R303, R307). -/
theorem coreStep_raises {s t : State} (h : coreStep s = .next t) (hs : s.state ≠ .error) (ht : t.state = .error) :
    s.CoreRaises t := by
  have hbase := prepared_raiseBase s
  have hstate := prepared_state s
  rcases coreStep_cases s with ⟨-, he⟩ | ⟨-, -, he⟩ | ⟨-, -, he⟩ <;> rw [he] at h
  · cases h
    exact absurd ht hs
  · have hraise := (raisesOnly_needMoreBits s.prepared).of_raiseBase hstate hbase
    exact .raise ((hraise t h ht).resolve_left hs)
  · exact (coreRaises_coreAction h (hstate ▸ hs) ht).of_raiseBase hbase (phase_prepared s)

/-- What a raise of a core step has in common with the state before, whatever the phase. -/
theorem State.CoreRaises.exists_declaring {s t : State} (h : s.CoreRaises t) :
    ∃ cr ln, (s.declaring cr ln).Raises t := by
  cases h with
  | raise h => exact ⟨s.declCrc, s.declLen, h⟩
  | trailer cr ln phase h => exact ⟨cr, ln, h⟩

/-- Outside `C_TRAILER` the declared values are kept too. -/
theorem State.CoreRaises.raises {s t : State} (h : s.CoreRaises t) (hp : s.core.phase ≠ .cTrailer) : s.Raises t := by
  cases h with
  | raise h => exact h
  | trailer cr ln phase h => exact absurd phase hp

/-! ## The machine in `ERROR` -/

/-- In `ERROR` a command word other than OPEN's changes `REJECT` at most (spec/60_exceptions.md R305). -/
theorem exec_decodeCommand_of_error {v : Word} {s : State} (hv : v ≠ 1) (hs : s.state = .error) :
    ∃ r, exec (decodeCommand v) s = .next { s with reject := r } := by
  rcases commandWord_cases v with rfl | rfl | hdone | hres
  · exact absurd rfl hv
  · exact ⟨false, execResume_ended (.inr hs)⟩
  · exact ⟨true, exec_doneCommand_rejected hdone (hs ▸ nofun)⟩
  · rw [decodeCommand_reserved hres]
    exact ⟨true, rfl⟩

/-- The registers an error keeps until a reset (spec/60_exceptions.md R305). -/
structure StickyRegs where
  state : RunState
  errorWord : Word
  outlog : List FlushRecord
  crcState : Word
  count : Word
  flushLen : BitVec 16
  verified : Bool
  window : Memory
  core : CoreRegs

/-- Those registers of `s`. -/
def State.sticky (s : State) : StickyRegs where
  state := s.state
  errorWord := s.errorWord
  outlog := s.outlog
  crcState := s.crcState
  count := s.count
  flushLen := s.flushLen
  verified := s.verified
  window := s.window
  core := s.core

theorem hostStep_sticky {a : HostAction} {s t : State} (hs : s.state = .error) (ha : a ≠ .write 0 .word 1)
    (h : hostStep a s = .next t) : t.sticky = s.sticky := by
  rcases hostStep_cases a s with ⟨v, rfl, he⟩ | he | ⟨cr, ln, q, tm, rp, dr, he⟩ <;> rw [he] at h
  · obtain ⟨r, hr⟩ := exec_decodeCommand_of_error (s := s) (fun hv => ha (hv ▸ rfl)) hs
    rw [hr] at h
    cases h
    rfl
  · cases h
  · cases h
    rfl

theorem coreStep_eq_of_error {s t : State} (hs : s.state = .error) (h : coreStep s = .next t) : t = s := by
  rw [coreStep_idle (hs ▸ nofun)] at h
  cases h
  rfl

/-- In `ERROR` every step but a reset keeps the registers of R305. -/
theorem step_sticky {s t : State} (hs : s.state = .error) (hreset : s.resetTurn = false) (h : step s = .next t) :
    t.sticky = s.sticky := by
  rcases step_cases s with ⟨-, he⟩ | ⟨rest, -, he⟩ | ⟨a, rest, ha, he⟩ | ⟨rest, ha, he⟩ <;> rw [he] at h
  · rw [coreStep_eq_of_error hs h]
  · rw [coreStep_eq_of_error (s := { s with agenda := rest }) hs h]
    rfl
  · have hopen : a ≠ .write 0 .word 1 := by
      rintro rfl
      rw [State.resetTurn, ha] at hreset
      cases hreset
    exact hostStep_sticky (s := { s with agenda := rest }) hs hopen h
  · rw [State.resetTurn, ha] at hreset
    cases hreset

end Sys2Proof.Machine

open Sys2Proof Sys2Proof.Machine

/-- Settles O49: a raise is one update of the state, and a core step that ends in ERROR is such a raise of a state with
the output of the one before (`coreStep_raises`). -/
theorem raiseKeepsOutput : Obligations.RaiseKeepsOutput := by
  refine ⟨fun e d tb s => ⟨rfl, rfl, rfl, rfl, keepsOutput_raiseError e d tb s, rfl⟩, fun s t h hb ht => ?_⟩
  have hraise := coreStep_raises h (hb ▸ nofun) ht
  obtain ⟨cr, ln, -, -, hout, hcore⟩ := hraise.exists_declaring
  refine ⟨hout.outlog, hout.crcState, hout.count, hout.flushLen, hout.verified, hout.config, hcore, fun hp => ?_⟩
  have hkept := (hraise.raises hp).output
  exact ⟨hkept.declCrc, hkept.declLen⟩

/-- Settles O50: an instruction, a decode and a wait for bits raise listed errors only (`coreStep_raises`,
`raisesOnly_check`). -/
theorem raisedErrorsAreListed : Obligations.RaisedErrorsAreListed := by
  rintro s t (h | h) hs ht
  · obtain ⟨cr, ln, hraise⟩ := (coreStep_raises h hs ht).exists_declaring
    exact ⟨hraise.memory, hraise.listed⟩
  · have hraise := (raisesOnly_check s t h ht).resolve_left hs
    exact ⟨hraise.memory, hraise.listed⟩

/-- Settles O51: in ERROR a step keeps the registers that `State.sticky` names (`step_sticky`), the core being idle;
each command, push and signal is its own rule's case for ERROR. -/
theorem errorIsSticky : Obligations.ErrorIsSticky := by
  refine ⟨fun s t hs hreset h => ?_, fun s hs => ?_⟩
  · obtain ⟨hstate, hkept⟩ := StickyRegs.mk.inj (step_sticky hs hreset h)
    exact ⟨hstate.trans hs, hkept⟩
  · have hdone : s.state ≠ .done := hs ▸ nofun
    refine ⟨execResume_ended (.inr hs), if_neg hdone, if_neg hdone, if_neg hdone, fun hi => ?_, fun t h => ?_,
      s.openReset, rfl, rfl, rfl⟩
    · exact ⟨fun b => congrArg _ (if_pos hi), congrArg _ (if_pos hi), congrArg _ (if_pos hi)⟩
    · rw [coreStep_eq_of_error hs h]
      exact ⟨rfl, rfl, rfl⟩
end

section
/-! PROOF. The reset values, and that they meet the invariants (spec/70_reset_and_hazards.md R330 to R332). -/

open Sys2Proof.Machine

/-- Settles O1: `State.reset`, a power-on reset and OPEN are the reset values with a window, parameters and own fields
(`atReset_reset_with`). -/
theorem bothResetsGiveResetValues : Obligations.BothResetsGiveResetValues :=
  ⟨atReset_reset_with _ _ _ _ _, fun _ => rfl,
    fun s _ => ⟨_, rfl, atReset_reset_with s.config _ _ _ _, fun _ => rfl, rfl, rfl, rfl, rfl⟩,
    fun s => ⟨s.openReset, rfl, atReset_reset_with _ _ _ _ _, rfl, rfl, rfl, rfl, rfl⟩⟩

/-- Settles O52: the reset values meet the invariant (`inv_reset_with`), and nothing is delivered yet. -/
theorem resetMeetsInvariants : Obligations.ResetMeetsInvariants :=
  ⟨inv_reset_with Memory.wf_nil _ _ _ _, accounted_reset_with _ _ _ _ _, outlogOk_of_nil rfl⟩
end

section
/-! PROOF. An action that does not raise consumes the bits it requires (spec/40_bitreader.md R100, R101): what decodes
is run from the state with exactly those removed, and no meaning puts bits back. -/

namespace Sys2Proof.Machine

/-! ## What decodes completes -/

/-- A decoded symbol is one of the table's, and so of its alphabet (spec/41_huffman.md R131). -/
theorem sym_lt_of_decodeCode {t : Table} {a : Alphabet} (ht : t.within a) {x : BitVec 15} {m : BitVec 4}
    {bits : List Bool} {sym k : Nat} (hd : decodeCode t a x m bits = .ok (sym, k)) : sym < a.size := by
  induction bits generalizing x m sym k with
  | nil => cases hd
  | cons b bits ih =>
    simp only [decodeCode] at hd
    split at hd
    · next hl =>
      cases hd
      exact ht.lookup hl
    · split_ifs at hd
      split at hd
      · next hd' =>
        cases hd
        exact ih hd'
      · cases hd

/-- A length symbol's row, and what its extra field's instruction does (spec/43_symbols.md R183). -/
theorem exists_lengthInstr {m : Nat} (h1 : 257 ≤ m) (h2 : m ≤ 285) : ∃ x base code extra,
    lengthRow m = some (x, base) ∧ lengthInstrs[m - 257]? = some (code, extra) ∧
    ∀ e s, exec (extra e) s = .next (lengthElement (BitVec.ofNat 9 m) base (.extra (BitVec.ofNat x e)) s) := by
  obtain ⟨x, base, hrow⟩ := exists_lengthRow h1 h2
  obtain ⟨code, extra, hi, -⟩ := symbolInstr_length hrow
  exact ⟨x, base, code, extra, hrow, hi, (exec_lengthInstrs hrow hi).2⟩

/-- A distance symbol's row, and what the instructions of its extra field and its copy do (spec/43_symbols.md R215,
R247). -/
theorem exists_distanceInstr {d : Nat} (h : d ≤ 29) : ∃ x base code extra copy,
    distanceRow d = some (x, base) ∧ distanceInstrs[d]? = some (code, extra, copy) ∧
    (∀ e s, exec (extra e) s = distanceElement (BitVec.ofNat 5 d) base (.extra (BitVec.ofNat x e)) s) ∧
    ∀ s, exec copy s = copyByte s := by
  obtain ⟨x, base, hrow⟩ := exists_distanceRow h
  obtain ⟨code, extra, copy, hi, -⟩ := symbolInstr_distance hrow
  exact ⟨x, base, code, extra, copy, hrow, hi, (exec_distanceInstrs hrow hi).2⟩

section
variable {v : State} (hA : v.Acting) (hu : v.Underway)
include hA hu

/-- The meaning of a symbol that the phase's table decodes, however many of its code bits were read before. -/
theorem completes_symbol {a : Alphabet} {t : Table} {x y : BitVec 15} {m n : BitVec 4} {bits : List Bool} {i : Instr}
    {k : Nat} (hc : State.ctx v = some (.symbol a t x m)) (hd : decodeSymbol a t y n bits = .ok (i, k)) :
    v.Completes (exec i v) := by
  obtain ⟨-, sym, hcode, hi⟩ := decodeSymbol_ok hd
  have hr := hu.ranges
  cases hp : v.core.phase <;> simp only [State.ctx, hp] at hc <;> cases hc <;> simp only [State.RangesOk, hp] at hr
  case dLensym =>
    obtain ⟨-, -, ht⟩ := hr
    obtain ⟨j, hj, hcomp⟩ := completes_clSymbol hA hu hp (sym_lt_of_decodeCode ht hcode)
    rwa [Option.some.inj (hi.symm.trans hj)]
  case lSym =>
    obtain ⟨j, hj, hcomp⟩ := completes_llSymbol hA hu hp (sym_lt_of_decodeCode hr.1 hcode)
    rwa [Option.some.inj (hi.symm.trans hj)]
  case lDsym =>
    obtain ⟨⟨-, ht⟩, -⟩ := hr
    obtain ⟨j, hj, hcomp⟩ := completes_distSymbol hA hu hp (sym_lt_of_decodeCode ht hcode)
    rwa [Option.some.inj (hi.symm.trans hj)]

/-- The meaning of an element of the phase that is no symbol's code. -/
theorem completes_fieldInstr {c : Ctx} {bits : List Bool} {i : Instr} {k : Nat} (hc : State.ctx v = some c)
    (hsym : ∀ a t x m, c ≠ .symbol a t x m) (hd : decode c bits = .ok (i, k)) : v.Completes (exec i v) := by
  have hr := hu.ranges
  cases hp : v.core.phase <;> simp only [State.ctx, hp] at hc <;> cases hc <;> simp only [State.RangesOk, hp] at hr
  case dLensym | lSym | lDsym => exact absurd rfl (hsym _ _ _ _)
  case dClbuild =>
    cases hd
    exact completes_clBuild hA hu hp
  case dRepeat =>
    obtain ⟨-, -, -, h16, h18⟩ := hr
    obtain ⟨mk, hdec, hmk⟩ := decode_repeatExtra h16 h18
    obtain ⟨-, rfl, -⟩ := decodeField_ok ((hdec bits).symm.trans hd)
    obtain ⟨r, l, hrep⟩ := hmk (natOfBits (bits.take _)) v
    rw [hrep]
    exact completes_repeatLengths hA hu hp r l
  case lLenx =>
    obtain ⟨ht, h1, h2⟩ := hr
    obtain ⟨x, base, code, extra, hrow, hi, hextra⟩ := exists_lengthInstr h1 h2
    simp only [decode, hrow, hi] at hd
    obtain ⟨-, rfl, -⟩ := decodeField_ok hd
    rw [hextra]
    exact completes_lengthExtra hA (by rw [hp]; rfl) ht hrow _
  case lDistx =>
    obtain ⟨-, -, -, h29⟩ := hr
    obtain ⟨x, base, code, extra, copy, hrow, hi, hextra, -⟩ := exists_distanceInstr h29
    simp only [decode, hrow, hi] at hd
    obtain ⟨-, rfl, -⟩ := decodeField_ok hd
    rw [hextra]
    exact completes_distExtra hA hu hp hrow _
  case lCopy =>
    obtain ⟨-, -, -, h29, -⟩ := hr
    obtain ⟨x, base, code, extra, copy, hrow, hi, -, hcopy⟩ := exists_distanceInstr h29
    simp only [decode, hi] at hd
    cases hd
    rw [hcopy]
    exact completes_copyByte hA hu hp
  all_goals
    simp only [decode] at hd
    obtain ⟨-, rfl, -⟩ := decodeField_ok hd
  case hBtype => exact completes_header hA hp _
  case sLen => exact completes_storedLen hA hp _
  case sNlen => exact completes_storedNlen hA hp _
  case sCopy => exact completes_storedByte hA hp _
  case dHlit => exact completes_hlit hA hu hp _
  case dHdist => exact completes_hdist hA hu hp _
  case dHclen => exact completes_hclen hA hu hp _
  case dCllen => exact completes_clLenField hA hu hp _
  case cRdbyte => exact completes_readByte hA _
  case cTrailer => exact completes_trailerByte hA hu hp _
end

/-! ## The bits an action consumes -/

theorem consumed_of_symbol {u : State} {a : Alphabet} {t : Table} {x : BitVec 15} {m : BitVec 4}
    (hc : State.ctx u = some (.symbol a t x m)) : u.consumed = u.takeCodeBit := by
  simp only [State.consumed, hc]

theorem consumed_of_field {u : State} (hsym : ∀ a t x m, State.ctx u ≠ some (.symbol a t x m)) :
    u.consumed = u.dropBits u.needed := by
  unfold State.consumed
  split
  · next hc => exact absurd hc (hsym _ _ _ _)
  · rfl

/-- A code bit read leaves the table to go on with. -/
theorem ctx_takeCodeBit {u : State} {a : Alphabet} {t : Table} {x : BitVec 15} {m : BitVec 4}
    (hc : State.ctx u = some (.symbol a t x m)) : ∃ y n, State.ctx u.takeCodeBit = some (.symbol a t y n) := by
  cases hp : u.core.phase <;> simp only [State.ctx, hp] at hc <;> cases hc
  all_goals exact ⟨_, _, by simp only [State.ctx, State.takeCodeBit_core, hp]; rfl⟩

/-- `H_BFINAL` consumes the bit it requires (spec/42_block.md R150). -/
theorem ahead_engineAction {s u : State} {k : Nat} (hp : u.core.phase = .hBfinal) (h : s.Ahead k u.consumed) :
    s.Ahead k (engineAction u) := by
  have hc : State.ctx u = none := by simp only [State.ctx, hp]
  have hneed : u.needed = 1 := by simp only [State.needed, hc, hp, if_true]
  rw [consumed_of_field (by rw [hc]; nofun), hneed] at h
  obtain ⟨hheld, hcnt, hbuf, hinq, htotal⟩ := h
  simp only [engineAction, hp]
  exact ⟨hheld, hcnt, hbuf, hinq, htotal⟩

/-- What decodes is run to its end from the state with its bits consumed. -/
theorem completes_decoded {u : State} (hA : u.consumed.Acting) (hu : u.consumed.Underway) {c : Ctx} {bits : List Bool}
    {i : Instr} {k : Nat} (hc : State.ctx u = some c) (hd : decode c bits = .ok (i, k)) :
    u.consumed.Completes (exec i u.consumed) := by
  by_cases hsym : ∃ a t x m, c = .symbol a t x m
  · obtain ⟨a, t, x, m, rfl⟩ := hsym
    obtain ⟨y, n, hc'⟩ := ctx_takeCodeBit hc
    rw [consumed_of_symbol hc] at hA hu ⊢
    exact completes_symbol hA hu hc' hd
  · have hne : ∀ a t x m, c ≠ .symbol a t x m := fun a t x m he => hsym ⟨a, t, x, m, he⟩
    rw [consumed_of_field fun a t x m he => hne a t x m (Option.some.inj (hc.symm.trans he))] at hA hu ⊢
    exact completes_fieldInstr hA hu hc hne hd

section
variable {s : State} (h : s.Inv) (hb : s.state = .busy) (hn : s.needed ≤ s.prepared.core.bitcnt.toNat)
include hn

/-- Removing the bits required, after any alignment, moves forward by them at least. -/
theorem ahead_prepared_dropBits :
    ∃ k, s.needed ≤ k ∧ s.Ahead k (({ s.prepared with inWait := false } : State).dropBits s.needed) := by
  obtain ⟨j, hj⟩ := (moves_prepared s).reader
  exact ⟨j + s.needed, Nat.le_add_left _ _, hj.trans (ahead_dropBits hn)⟩

include h hb

/-- An action that requires bits starts with those bits, at least, removed. -/
theorem starts_consumed (hpos : 0 < s.needed) :
    s.Starts ({ s.prepared with inWait := false } : State).consumed ∧
    ∃ k, s.needed ≤ k ∧ s.Ahead k ({ s.prepared with inWait := false } : State).consumed := by
  obtain ⟨k, hk, hahead⟩ := ahead_prepared_dropBits hn
  by_cases hsym : ∃ a t x m, State.ctx ({ s.prepared with inWait := false } : State) = some (.symbol a t x m)
  · obtain ⟨a, t, x, m, hc⟩ := hsym
    have h1 : s.needed = 1 := by
      have hw := needed_of_ctx ((ctx_prepared s).symm.trans hc)
      simp only [Ctx.width] at hw
      split_ifs at hw <;> omega
    rw [consumed_of_symbol hc]
    rw [h1] at hahead
    obtain ⟨hheld, hcnt, hbuf, hinq, htotal⟩ := hahead
    exact ⟨starts_takeCodeBit h hb hn h1, k, hk, hheld, hcnt, hbuf, hinq, htotal⟩
  · rw [consumed_of_field fun a t x m hc => hsym ⟨a, t, x, m, hc⟩,
      show State.needed { s.prepared with inWait := false } = s.needed from needed_prepared s]
    exact ⟨starts_dropBits h hb hn, k, hk, hahead⟩

/-- An action that does not raise consumes the bits it requires (spec/40_bitreader.md R101). -/
theorem coreStep_consumes {t : State} (he : coreStep s = .next t) (ht : t.state ≠ .error) :
    ∃ k, s.needed ≤ k ∧ s.Ahead k t := by
  rcases Nat.eq_zero_or_pos s.needed with h0 | hpos
  · obtain ⟨v, hv, t', he', hacts⟩ := coreStep_completes h hb hn
    obtain rfl : t' = t := Host.Outcome.next.inj (he'.symm.trans he)
    obtain ⟨j, hj⟩ := hv.moves.reader
    obtain ⟨k, hk⟩ := hacts.ahead ht
    exact ⟨j + k, h0 ▸ Nat.zero_le _, hj.trans hk⟩
  · obtain ⟨hv, k, hk, hahead⟩ := starts_consumed h hb hn hpos
    rw [coreStep_act hb (by rw [needed_prepared]; exact hn)] at he
    rcases coreAction_cases { s.prepared with inWait := false } with
      ⟨hc, hact⟩ | ⟨c, hc, ⟨i, n, hd, hact⟩ | ⟨n, -, hact⟩ | ⟨e, -, hact⟩ | ⟨e, -, hact⟩ | ⟨-, hact⟩⟩ <;>
      rw [hact] at he
    · cases he
      have hp : s.core.phase = .hBfinal := by
        rw [State.needed, (ctx_prepared s).symm.trans hc] at hpos
        dsimp only at hpos
        split_ifs at hpos with hp
        · exact hp
        · cases hpos
      exact ⟨k, hk, ahead_engineAction ((phase_prepared s).trans hp) hahead⟩
    · obtain ⟨t', he', hacts⟩ := completes_decoded (h.acting hb hv) hv.underway hc hd
      obtain rfl : t' = t := Host.Outcome.next.inj (he'.symm.trans he)
      obtain ⟨j, hj⟩ := hacts.ahead ht
      exact ⟨k + j, Nat.le_add_right_of_le hk, hahead.trans hj⟩
    · cases he
      exact ⟨k, hk, hahead⟩
    · cases he
      exact absurd rfl ht
    · cases he
      exact absurd rfl ht
    · cases he

end

end Sys2Proof.Machine
end

section
/-! PROOF. Every core step makes progress, and with a terminated port the core leaves BUSY (spec/70_reset_and_hazards.md
R338): a step takes a byte, consumes bits, or is one of the few actions that require none, and only boundedly many of
those follow each other. -/

namespace Sys2Proof.Machine

/-! ## Actions that require no bits -/

/-- The phases whose action requires no bits; a symbol is decoded without any where its table is EMPTY
(spec/40_bitreader.md R100, spec/41_huffman.md R132). -/
theorem needed_eq_zero_cases {s : State} (hx : s.core.phase ≠ .xDone) (h0 : s.needed = 0) :
    s.core.phase = .dClbuild ∨ s.core.phase = .dBuild ∨ s.core.phase = .fEnd ∨ s.core.phase = .lLenx ∨
    s.core.phase = .lDistx ∨ s.core.phase = .lCopy ∨
    ∃ a t, State.ctx s = some (.symbol a t s.core.hcode s.core.hcnt) ∧ t.status = .empty := by
  cases hp : s.core.phase <;> simp only [State.needed, State.ctx, hp, Ctx.width, reduceCtorEq, if_true,
    one_ne_zero] at h0
  case dLensym | lSym | lDsym =>
    split_ifs at h0 with hst
    simp [State.ctx, hp, hst]
  case dRepeat =>
    unfold repeatWidth at h0
    split_ifs at h0
  case xDone => exact absurd hp hx
  all_goals simp

section
variable {s : State} (h : s.Inv) (hb : s.state = .busy)
include hb

/-- `D_CLBUILD` (spec/42_block.md R164). -/
theorem coreStep_clBuild (hp : s.core.phase = .dClbuild) :
    coreStep s = .next (buildCodeLengthTable (s.took 0)) :=
  coreStep_of_bits (c := .clBuild) (mk := fun _ => .dynhdr .build) ⟨hb, hp, Nat.zero_le _⟩ (by decide)
    (by simp only [State.ctx, hp]) nofun rfl fun _ => rfl

/-- `D_BUILD` (spec/42_block.md R171). -/
theorem coreStep_symbolTables (hp : s.core.phase = .dBuild) :
    coreStep s = .next (buildSymbolTables { s with inWait := false }) := by
  rw [coreStep_of_engine ⟨hb, hp, Nat.zero_le _⟩ (by decide) (by simp only [State.ctx, hp])
    (by simp [State.needed, State.ctx, hp])]
  simp only [engineAction, hp]

include h

/-- `L_LENX`, whichever length symbol is read (spec/43_symbols.md R183). -/
theorem coreStep_lengthExtra (hp : s.core.phase = .lLenx) (hheld : s.needed ≤ s.core.bitcnt.toNat) :
    ∃ m base, ∃ x, ∃ e : BitVec x, coreStep s = .next (lengthElement m base (.extra e) (s.took s.needed)) := by
  have hr := (h.underway hb).ranges
  simp only [State.RangesOk, hp] at hr
  obtain ⟨-, h1, h2⟩ := hr
  obtain ⟨x, base, code, extra, hrow, hi, hextra⟩ := exists_lengthInstr h1 h2
  have hc : State.ctx s = some (.lengthExtra s.core.msym.toNat) := by simp only [State.ctx, hp]
  rw [needed_of_ctx hc] at hheld ⊢
  have hstep := coreStep_of_field (mk := extra) ⟨hb, hp, hheld⟩ (by decide) hc nofun fun _ => by
    simp only [decode, width_lengthExtra hrow, hrow, hi]
  exact ⟨_, _, _, _, hstep.trans (hextra _ _)⟩

/-- `L_DISTX`, whichever distance symbol is read (spec/43_symbols.md R215). -/
theorem coreStep_distExtra (hp : s.core.phase = .lDistx) (hheld : s.needed ≤ s.core.bitcnt.toNat) :
    ∃ d, coreStep s = .next (takeDistance d (s.took s.needed)) := by
  have hr := (h.underway hb).ranges
  simp only [State.RangesOk, hp] at hr
  obtain ⟨-, -, -, h29⟩ := hr
  obtain ⟨x, base, code, extra, copy, hrow, hi, hextra, -⟩ := exists_distanceInstr h29
  have hc : State.ctx s = some (.distExtra s.core.dsym.toNat) := by simp only [State.ctx, hp]
  rw [needed_of_ctx hc] at hheld ⊢
  have hstep := coreStep_of_field (mk := extra) ⟨hb, hp, hheld⟩ (by decide) hc nofun fun _ => by
    simp only [decode, width_distExtra hrow, hrow, hi]
  exact ⟨_, hstep.trans (hextra _ _)⟩

/-- `L_COPY` writes one byte, wherever it is copied from (spec/43_symbols.md R247). -/
theorem coreStep_copyByte (hp : s.core.phase = .lCopy) : ∃ b d,
    coreStep s = .next (State.afterWrite b { (s.took 0).countMatch with draws := d }) := by
  have hr := (h.underway hb).ranges
  simp only [State.RangesOk, hp] at hr
  obtain ⟨-, -, -, h29, -⟩ := hr
  obtain ⟨hc, -⟩ := h.okBusy hb
  rw [coreStep_copy ⟨hb, hp, Nat.zero_le _⟩ h29]
  exact ⟨_, _, copyByte_next (hc.room (by rw [hb]; decide))⟩

end

/-! ## What a core step makes progress on -/

/-- A bound on the actions that can follow without a bit: one for each byte left of a match, whose length `MLEN` has 9
bits, or one that leads to a phase that reads (spec/70_reset_and_hazards.md R338). -/
def State.bitFreeSteps (s : State) : Nat :=
  match s.core.phase with
  | .lDistx => 512
  | .lCopy => s.core.mrem.toNat
  | .lLenx | .dClbuild | .dBuild => 1
  | _ => 0

theorem bitFreeSteps_le (s : State) : s.bitFreeSteps ≤ 512 := by
  have := s.core.mrem.isLt
  unfold State.bitFreeSteps
  split <;> omega

/-- An action without a bit that goes on leaves fewer of them to come. -/
theorem bitFreeSteps_lt {s t : State} (h : s.Inv) (hb : s.state = .busy) (h0 : s.needed = 0)
    (he : coreStep s = .next t) (ht : t.state = .busy) : t.bitFreeSteps < s.bitFreeSteps := by
  have hheld : s.needed ≤ s.core.bitcnt.toNat := h0 ▸ Nat.zero_le _
  rcases needed_eq_zero_cases (h.underway hb).goesOn h0 with hp | hp | hp | hp | hp | hp | ⟨a, tbl, hc, hst⟩
  · cases (coreStep_clBuild hb hp).symm.trans he
    cases hd : buildDynamic .cl (s.took 0).clLengths (s.took 0) with
    | error p => rw [buildCodeLengthTable_error hd] at ht; cases ht
    | ok tbl => simp [State.bitFreeSteps, hp, buildCodeLengthTable_ok hd]
  · cases (coreStep_symbolTables hb hp).symm.trans he
    rcases buildSymbolTables_cases { s with inWait := false } with herr | ⟨lt, dt, hok⟩
    · cases ht.symm.trans herr
    · simp [State.bitFreeSteps, hp, hok]
  · obtain ⟨hflush, hdone⟩ := endOfStream s ⟨hb, hp, Nat.zero_le _⟩
    rcases Nat.eq_zero_or_pos s.core.w.toNat with hw | hw
    · cases (hdone (BitVec.eq_of_toNat_eq hw)).symm.trans he
      cases ht
    · cases (hflush hw).symm.trans he
      cases ht
  · obtain ⟨m, base, x, e, hstep⟩ := coreStep_lengthExtra h hb hp hheld
    cases hstep.symm.trans he
    simp [State.bitFreeSteps, hp, lengthElement]
  · obtain ⟨d, hstep⟩ := coreStep_distExtra h hb hp hheld
    cases hstep.symm.trans he
    unfold takeDistance at ht ⊢
    split_ifs at ht ⊢
    · cases ht
    · have := (s.took s.needed).core.mlen.isLt
      simpa [State.bitFreeSteps, hp] using this
  · obtain ⟨b, d, hstep⟩ := coreStep_copyByte h hb hp
    cases hstep.symm.trans he
    have hr := (h.underway hb).ranges
    simp only [State.RangesOk, hp] at hr
    obtain ⟨-, h1, -⟩ := hr
    by_cases hlast : s.core.mrem = 1
    · rw [countMatch_of_last (s := s.took 0) hlast]
      simp [State.bitFreeSteps, hp, hlast]
    · rw [countMatch_of_ne (s := s.took 0) hlast]
      have hlt : (s.core.mrem - 1).toNat < s.core.mrem.toNat := by bv_omega
      simpa [State.bitFreeSteps, hp, State.took] using hlt
  · rw [coreStep_emptyTable hb hc hst] at he
    cases he
    cases ht

/-- A hold leaves the state, or drops the rest of a byte (spec/40_bitreader.md R103; notes/assumptions/16.md). -/
theorem prepared_progress {s : State} (h : s.ReaderOk) : s.prepared = s ∨ s.bitPos < s.prepared.bitPos := by
  by_cases hp : s.core.phase = .cRdbyte
  · rw [prepared_of_rdbyte hp]
    have hpos := (ahead_dropBits (Nat.mod_le s.core.bitcnt.toNat 8)).bitPos h.position
    rcases Nat.eq_zero_or_pos (s.core.bitcnt.toNat % 8) with h0 | hk
    · exact .inl (alignToByte_of_aligned h0)
    · exact .inr (hpos ▸ Nat.lt_add_of_pos_right hk)
  · exact .inl (prepared_of_ne hp)

/-- A wait that does not raise is a hold, takes a byte, or drops the rest of one. -/
theorem needMoreBits_progress {s : State} (h : s.ReaderOk) (ht : (needMoreBits s.prepared).state ≠ .error) :
    needMoreBits s.prepared = { s with inWait := true } ∨
    s.inq.length = (needMoreBits s.prepared).inq.length + 1 ∨ s.bitPos < (needMoreBits s.prepared).bitPos := by
  rcases needMoreBits_cases s.prepared with ⟨b, rest, hq, hf⟩ | ⟨-, -, hf⟩ | ⟨-, -, hf⟩ | ⟨-, -, hf⟩ <;> rw [hf] at ht ⊢
  · rw [State.prepared_inq] at hq
    exact .inr (.inl (by rw [hq, List.length_cons, fetchByte_inq]))
  · exact absurd rfl ht
  · exact absurd rfl ht
  · rcases prepared_progress h with hp | hp
    · exact .inl (by rw [hp])
    · exact .inr (.inr hp)

/-- An action without a bit that does not raise writes a window byte, or is in one of the phases named. -/
theorem bitFree_progress {s t : State} (h : s.Inv) (hb : s.state = .busy) (h0 : s.needed = 0)
    (he : coreStep s = .next t) (ht : t.state ≠ .error) :
    (∃ b, t.window = s.window.write s.core.w.toNat b ∧ t.core.w = s.core.w + 1) ∨
    s.core.phase = .dClbuild ∨ s.core.phase = .dBuild ∨ s.core.phase = .fEnd ∨
    ((s.core.phase = .lLenx ∨ s.core.phase = .lDistx) ∧ s.needed = 0) := by
  rcases needed_eq_zero_cases (h.underway hb).goesOn h0 with hp | hp | hp | hp | hp | hp | ⟨a, tbl, hc, hst⟩
  · exact .inr (.inl hp)
  · exact .inr (.inr (.inl hp))
  · exact .inr (.inr (.inr (.inl hp)))
  · exact .inr (.inr (.inr (.inr ⟨.inl hp, h0⟩)))
  · exact .inr (.inr (.inr (.inr ⟨.inr hp, h0⟩)))
  · obtain ⟨b, d, hstep⟩ := coreStep_copyByte h hb hp
    cases hstep.symm.trans he
    refine .inl ⟨b, ?_⟩
    rw [countMatch_frame, afterWrite_window, afterWrite_core]
    exact ⟨rfl, rfl⟩
  · cases (coreStep_emptyTable hb hc hst).symm.trans he
    exact absurd rfl ht

/-! ## The core leaves BUSY -/

/-- A bound on the core steps still to come with a terminated port: the bits still to be read and the bytes still to be
fetched come first, then the actions that need neither. -/
def State.stepsLeft (s : State) : Nat := 1024 * (s.core.bitcnt.toNat + 9 * s.inq.length) + s.bitFreeSteps

/-- With a terminated port each core step in BUSY leaves fewer to come. -/
theorem stepsLeft_lt {s t : State} (h : s.Inv) (hb : s.state = .busy) (hi : s.interm ≠ .none)
    (he : coreStep s = .next t) (ht : t.state = .busy) : t.stepsLeft < s.stepsLeft := by
  have hfree := bitFreeSteps_le t
  rcases coreStep_cases s with ⟨hne, -⟩ | ⟨-, hlt, hw⟩ | ⟨-, hn, -⟩
  · exact absurd hb hne
  · obtain ⟨j, hj⟩ := (moves_prepared s).reader
    have hcnt : s.prepared.core.bitcnt.toNat = s.core.bitcnt.toNat - j := hj.bitcnt
    cases hw.symm.trans he
    rcases needMoreBits_cases s.prepared with ⟨b, rest, hq, hf⟩ | ⟨-, -, hf⟩ | ⟨-, -, hf⟩ | ⟨-, hnone, hf⟩ <;>
      rw [hf] at ht hfree ⊢
    · have h16 := needed_le s
      rw [needed_prepared] at hlt
      have hfetch := bitcnt_fetchByte (s := s.prepared) (by omega) b rest
      rw [State.prepared_inq] at hq
      have hlen : s.inq.length = rest.length + 1 := by rw [hq, List.length_cons]
      rw [State.stepsLeft, State.stepsLeft, hfetch, fetchByte_inq, hlen]
      omega
    · cases ht
    · cases ht
    · rw [State.prepared_interm] at hnone
      exact absurd hnone hi
  · rw [needed_prepared] at hn
    obtain ⟨k, hk, hahead⟩ := coreStep_consumes h hb hn he (by rw [ht]; decide)
    have hheld := hahead.held
    have hcnt := hahead.bitcnt
    rw [State.stepsLeft, State.stepsLeft, hcnt, hahead.inq]
    rcases Nat.eq_zero_or_pos s.needed with h0 | hpos
    · have := bitFreeSteps_lt h hb h0 he ht
      omega
    · omega

/-- No effect of an action is IDLE. -/
theorem State.Acts.ne_idle {s t : State} (h : s.Acts t) (hs : s.state = .busy) : t.state ≠ .idle := by
  cases h with
  | raises error _ => rw [error]; decide
  | moves moves _ => rw [moves.state, hs]; decide
  | @writes u b moves _ _ =>
    rcases afterWrite_cases b u with ⟨-, he⟩ | ⟨-, he⟩ <;> rw [he]
    · rw [State.putByte_state, moves.state, hs]; decide
    · nofun
  | finishes _ _ _ | flushes _ _ => nofun

/-- Only a reset makes the core IDLE. -/
theorem coreStep_ne_idle {s t : State} (h : s.Inv) (hb : s.state = .busy) (he : coreStep s = .next t) :
    t.state ≠ .idle := by
  rcases coreStep_cases s with ⟨hne, -⟩ | ⟨-, -, hw⟩ | ⟨-, hn, -⟩
  · exact absurd hb hne
  · have hp : s.prepared.state ≠ .idle := by rw [prepared_state, hb]; decide
    cases hw.symm.trans he
    rcases needMoreBits_cases s.prepared with ⟨b, rest, -, hf⟩ | ⟨-, -, hf⟩ | ⟨-, -, hf⟩ | ⟨-, -, hf⟩ <;> rw [hf]
    · exact hp
    · nofun
    · nofun
    · exact hp
  · rw [needed_prepared] at hn
    obtain ⟨v, hv, t', he', hacts⟩ := coreStep_completes h hb hn
    cases he'.symm.trans he
    exact hacts.ne_idle (hv.moves.state.trans hb)

theorem coreRun_succ {k : Nat} {s t : State} (h : coreStep s = .next t) : coreRun (k + 1) s = coreRun k t := by
  rw [coreRun, h]

/-- With a terminated port some number of core steps suspends the core, ends the stream or raises. -/
theorem coreRun_leaves_busy {s : State} (h : s.Inv) (hb : s.state = .busy) (hi : s.interm ≠ .none) :
    ∃ k t, coreRun k s = .next t ∧ (t.state = .flush ∨ t.state = .done ∨ t.state = .error) := by
  induction hm : s.stepsLeft using Nat.strong_induction_on generalizing s with
  | _ n ih =>
    obtain ⟨t, he, hinv⟩ := coreStep_inv h
    have hit : t.interm = s.interm := (coreStep_takes he).elim (·.interm) (·.interm)
    cases hst : t.state with
    | idle => exact absurd hst (coreStep_ne_idle h hb he)
    | busy =>
      obtain ⟨k, u, hrun, hu⟩ := ih _ (hm ▸ stepsLeft_lt h hb hi he hst) hinv hst (hit ▸ hi) rfl
      exact ⟨k + 1, u, (coreRun_succ he).trans hrun, hu⟩
    | flush | done | error => exact ⟨1, t, coreRun_succ he, by simp [hst]⟩

end Sys2Proof.Machine

open Sys2Proof.Machine
/-- Settles O59: a wait makes progress by `needMoreBits_progress`, an action by the bits it requires
(`coreStep_consumes`) or, where it requires none, by `bitFree_progress`; `stepsLeft_lt` bounds the steps in BUSY. -/
theorem coreReachesASuspension : Obligations.CoreReachesASuspension := by
  refine ⟨fun s t h hb he ht => ?_, fun s h hb hi => coreRun_leaves_busy h hb hi⟩
  obtain ⟨-, hr, -⟩ := h.okBusy hb
  rcases coreStep_cases s with ⟨hne, -⟩ | ⟨-, -, hw⟩ | ⟨-, hn, -⟩
  · exact absurd hb hne
  · cases hw.symm.trans he
    exact (needMoreBits_progress hr ht).imp id (Or.imp id .inl)
  · rcases Nat.eq_zero_or_pos s.needed with h0 | hpos
    · exact .inr (.inr (.inr (bitFree_progress h hb h0 he ht)))
    · rw [needed_prepared] at hn
      obtain ⟨k, hk, hahead⟩ := coreStep_consumes h hb hn he ht
      exact .inr (.inr (.inl (by rw [hahead.bitPos hr.position]; omega)))
end
